-- ==== Sys2Proof/Word.lean ====
section
/-! DEFINITION. The word types of the LW-640 model: the byte of a frame and the 16-bit value of the LFSR. -/

namespace Sys2Proof

/-- A byte of a frame (chapter 11) or of the lamp chain (R66). -/
abbrev Byte := BitVec 8

/-- The LFSR's 16-bit value (R57). -/
abbrev Lfsr := BitVec 16

end Sys2Proof
end

