-- ==== Sys2Proof/Syntax.lean ====
section
/-! DEFINITION. The commands of the LW-640: one constructor for each row of spec/opcode_table.json.
A host request carries the tag and the payload bytes of its frame (R174, chapter 11); a timed step names the object
it concerns. The operands are the model's, since the table's rows give none (log 1, DESIGN CHOICE). -/

namespace Sys2Proof

/-- The fade record that a FADE_END names: a channel's (R40) or a group's (R41). -/
inductive FadeRef where
  | channel (c : Fin 128)
  | group (g : Fin 16)
  deriving DecidableEq, Repr

/-- The commands: the steps of the part, each whole and indivisible. -/
inductive Instr where
  /-- POWER_ON_RESET (R180): Applying power or driving RESET gives every unit its reset values, reads the rate straps and queues the READY notice. -/
  | powerOnReset (rate1 rate0 : Bool)
  /-- PING (R177), kind 0x01: Host request answered OK with the identity, the rate code and the capacities. -/
  | ping (tag : Byte) (payload : List Byte)
  /-- STATUS (R178), kind 0x02: Host request reporting the service, clock, notice, link, action queue and chain status, and optionally clearing the rejection counters. -/
  | status (tag : Byte) (payload : List Byte)
  /-- SCENE_RESET (R179), kind 0x03: Host request returning every unit to its starting condition while keeping most configuration. -/
  | sceneReset (tag : Byte) (payload : List Byte)
  /-- NOTICE_MASK (R177), kind 0x04: Host request replacing the eight notice class enable flags. -/
  | noticeMask (tag : Byte) (payload : List Byte)
  /-- SERVICE (R167), kind 0x05: Host request putting the scene into SERVICE with cause REQUEST. -/
  | service (tag : Byte) (payload : List Byte)
  /-- RESUME (R167), kind 0x06: Host request returning the scene to NORMAL unless the door is open. -/
  | resume (tag : Byte) (payload : List Byte)
  /-- SAY (R36), kind 0x07: Request that sends a CUE_EVENT SAY notice carrying a sound code and its source. -/
  | say (tag : Byte) (payload : List Byte)
  /-- CLOCK_SET (R4), kind 0x10: Request setting the model time and rate, moving the scan position and setting D and phase plainly. -/
  | clockSet (tag : Byte) (payload : List Byte)
  /-- CLOCK_RUN (R5), kind 0x11: Request taking a STOPPED or HELD clock to RUNNING and stopping the hold timer. -/
  | clockRun (tag : Byte) (payload : List Byte)
  /-- CLOCK_HOLD (R6), kind 0x12: Request holding a RUNNING clock or restarting the hold timer of a HELD clock. -/
  | clockHold (tag : Byte) (payload : List Byte)
  /-- CLOCK_STOP (R7), kind 0x13: Request taking the clock to STOPPED and stopping the hold timer. -/
  | clockStop (tag : Byte) (payload : List Byte)
  /-- CURVE_LOAD (R9), kind 0x14: Request replacing the daylight curve, then recomputing D and setting the phase plainly. -/
  | curveLoad (tag : Byte) (payload : List Byte)
  /-- SYNC_MODE (R14), kind 0x15: Request setting the sync mode to LOCAL, LEADER or FOLLOWER. -/
  | syncMode (tag : Byte) (payload : List Byte)
  /-- CLOCK_MARK (R16), kind 0x16: Request making a leader emit one SYNC pulse at once. -/
  | clockMark (tag : Byte) (payload : List Byte)
  /-- PHASE_CONFIG (R13), kind 0x17: Request setting the phase threshold and hysteresis and setting the phase plainly. -/
  | phaseConfig (tag : Byte) (payload : List Byte)
  /-- CLOCK_QUERY (R21), kind 0x18: Request reporting the clock state and a window of curve points. -/
  | clockQuery (tag : Byte) (payload : List Byte)
  /-- CUE_ADD (R24), kind 0x1A: Request adding or replacing a cue record. -/
  | cueAdd (tag : Byte) (payload : List Byte)
  /-- CUE_REMOVE (R25), kind 0x1B: Request removing one cue, or all cues, together with their due list entries. -/
  | cueRemove (tag : Byte) (payload : List Byte)
  /-- CUE_ENABLE (R26), kind 0x1C: Request setting a cue's enabled flag. -/
  | cueEnable (tag : Byte) (payload : List Byte)
  /-- CUE_QUERY (R27), kind 0x1D: Request reporting the cue record at a list position. -/
  | cueQuery (tag : Byte) (payload : List Byte)
  /-- LIGHT_CONFIG (R62), kind 0x20: Request replacing a channel record and restarting its role. -/
  | lightConfig (tag : Byte) (payload : List Byte)
  /-- LIGHT_SET (R47), kind 0x21: Request starting a fade of a FIXED channel toward a level. -/
  | lightSet (tag : Byte) (payload : List Byte)
  /-- GROUP_SET (R63), kind 0x22: Request starting a fade of a group scale. -/
  | groupSet (tag : Byte) (payload : List Byte)
  /-- LIGHT_QUERY (R64), kind 0x23: Request reporting a channel record or a group record. -/
  | lightQuery (tag : Byte) (payload : List Byte)
  /-- CHAIN_CONFIG (R76), kind 0x24: Request replacing the lamp chain settings, invalidating the previous snapshot and clearing a fault. -/
  | chainConfig (tag : Byte) (payload : List Byte)
  /-- CHAIN_QUERY (R80), kind 0x25: Request reporting the lamp chain state and counts, optionally clearing two counts. -/
  | chainQuery (tag : Byte) (payload : List Byte)
  /-- DRIVE_CONFIG (R83), kind 0x30: Request setting a drive's kind and settings and restarting it. -/
  | driveConfig (tag : Byte) (payload : List Byte)
  /-- DRIVE_TUNE (R84), kind 0x31: Request replacing a drive's Kp and Ki. -/
  | driveTune (tag : Byte) (payload : List Byte)
  /-- DRIVE_RUN (R90), kind 0x32: Request running a ROTARY drive toward a target speed with an optional duration. -/
  | driveRun (tag : Byte) (payload : List Byte)
  /-- DRIVE_STOP (R92), kind 0x33: Request stopping a drive by COAST, RAMP or HOME. -/
  | driveStop (tag : Byte) (payload : List Byte)
  /-- DRIVE_MOVE (R95), kind 0x34: Request moving a TRAVERSE drive toward its OPEN or CLOSED end. -/
  | driveMove (tag : Byte) (payload : List Byte)
  /-- DRIVE_QUERY (R101), kind 0x35: Request reporting a drive record. -/
  | driveQuery (tag : Byte) (payload : List Byte)
  /-- BLOCK_CONFIG (R104), kind 0x40: Request setting a block's delays, approach settings and transit timeout, and configuring the block. -/
  | blockConfig (tag : Byte) (payload : List Byte)
  /-- PATH_ADD (R110), kind 0x41: Request adding or replacing a path table entry. -/
  | pathAdd (tag : Byte) (payload : List Byte)
  /-- PATH_CLEAR (R111), kind 0x42: Request emptying the path table when no block is held. -/
  | pathClear (tag : Byte) (payload : List Byte)
  /-- TURNOUT_CONFIG (R112), kind 0x43: Request setting a turnout's pulse time. -/
  | turnoutConfig (tag : Byte) (payload : List Byte)
  /-- TURNOUT_SET (R118), kind 0x44: Request queueing a throw of a turnout unless it is locked in the other position. -/
  | turnoutSet (tag : Byte) (payload : List Byte)
  /-- BLOCK_QUERY (R122), kind 0x45: Request reporting a block record. -/
  | blockQuery (tag : Byte) (payload : List Byte)
  /-- TURNOUT_QUERY (R122), kind 0x46: Request reporting a turnout record and the CDU state. -/
  | turnoutQuery (tag : Byte) (payload : List Byte)
  /-- CDU_CONFIG (R117), kind 0x47: Request setting the CDU recharge time. -/
  | cduConfig (tag : Byte) (payload : List Byte)
  /-- TRAIN_PLACE (R128), kind 0x48: Request placing a train STOPPED on a FREE configured block, which becomes RESERVED. -/
  | trainPlace (tag : Byte) (payload : List Byte)
  /-- TRAIN_REMOVE (R129), kind 0x49: Request releasing a train's blocks and returning its record to FREE. -/
  | trainRemove (tag : Byte) (payload : List Byte)
  /-- TRAIN_ROUTE (R131), kind 0x4A: Request giving a train a new route and route speed and asking for its next block. -/
  | trainRoute (tag : Byte) (payload : List Byte)
  /-- TRAIN_SPEED (R132), kind 0x4B: Request replacing a train's route speed. -/
  | trainSpeed (tag : Byte) (payload : List Byte)
  /-- TRAIN_STOP (R133), kind 0x4C: Request stopping a train by RAMP or EMERGENCY and releasing its next block. -/
  | trainStop (tag : Byte) (payload : List Byte)
  /-- TRAIN_QUERY (R147), kind 0x4D: Request reporting a train record. -/
  | trainQuery (tag : Byte) (payload : List Byte)
  /-- CROSSING_CONFIG (R150), kind 0x50: Request setting a crossing's protected block, barrier and warning time, and binding the barrier. -/
  | crossingConfig (tag : Byte) (payload : List Byte)
  /-- CROSSING_RESET (R156), kind 0x51: Request commanding a crossing CLOSED or OPEN, according to whether its block is held. -/
  | crossingReset (tag : Byte) (payload : List Byte)
  /-- CROSSING_QUERY (R158), kind 0x52: Request reporting a crossing record. -/
  | crossingQuery (tag : Byte) (payload : List Byte)
  /-- INPUT_CONFIG (R163), kind 0x58: Request setting an input's trigger, debounce time and use. -/
  | inputConfig (tag : Byte) (payload : List Byte)
  /-- INPUT_BIND (R164), kind 0x59: Request replacing the binding of a GENERAL input. -/
  | inputBind (tag : Byte) (payload : List Byte)
  /-- INPUT_QUERY (R169), kind 0x5A: Request reporting an input record and the service state. -/
  | inputQuery (tag : Byte) (payload : List Byte)
  /-- DOOR_CONFIG (R167), kind 0x5B: Request setting the auto-resume time. -/
  | doorConfig (tag : Byte) (payload : List Byte)
  /-- UNKNOWN_KIND (R174): A taken frame whose kind is not a request kind is answered UNKNOWN_KIND with nothing performed. -/
  | unknownKind (kind tag : Byte) (payload : List Byte)
  /-- STORED_ACTION_PERFORM (R35): The dispatcher takes the head of the action queue and performs it as a request, without a reply. -/
  | storedActionPerform
  /-- RX_CHARACTER (R172): A character received on RX is worked by the frame assembler according to its state. -/
  | rxCharacter (data : Byte) (stop : Bool)
  /-- GAP_TIMEOUT (R172): 10 byte times without a character reject the frame being assembled with GAP, or end a discard. -/
  | gapTimeout
  /-- TRANSMIT_COMPLETE (R175): The last character of a frame is sent, a reply slot is freed if the frame was a reply, and the transmitter chooses its next frame. -/
  | transmitComplete
  /-- CLOCK_STEP (R2): The 100 ms clock step works the hold, advance, cues, leader pulse and daylight stages. -/
  | clockStep
  /-- HOLD_END (R3): Expiry of the hold timer makes the clock RUNNING and sends HOLD_END. -/
  | holdEnd
  /-- SYNC_LOST (R18): A follower's advance since pulse reaching 1,200 makes the sync state LOST. -/
  | syncLost
  /-- SYNC_PULSE_END (R15): After 1 ms high the SYNC pin returns low, or is released if the mode has left LEADER. -/
  | syncPulseEnd
  /-- SYNC_EDGE (R17): A rising edge on SYNC snaps a running follower's model time to the nearest whole minute. -/
  | syncEdge
  /-- LIGHTING_FRAME (R42): The 10 ms lighting frame computes every group and channel and writes the outputs and the frame buffer. -/
  | lightingFrame (busy : Bool)
  /-- NIGHT_STAGGER_EXPIRY (R50): A NIGHT channel's remaining count reaching 0 starts its warm or cool fade and makes it ON or OFF. -/
  | nightStaggerExpiry (c : Fin 128)
  /-- FADE_END (R44): A fade whose elapsed count reaches N ends at its end level. -/
  | fadeEnd (f : FadeRef)
  /-- CHAIN_BYTE_DONE (R69): A chain byte finishes shifting, its returned byte is compared, and the chain moves to the next byte or the latch. -/
  | chainByteDone (returned : Byte) (busy : Bool)
  /-- BYTE_INTERVAL_END (R70): The byte interval expires and the chain tests CHAIN_BUSY or sends the next byte. -/
  | byteIntervalEnd (busy : Bool)
  /-- CHAIN_BUSY_LOW (R70): CHAIN_BUSY falls during a busy wait and the waiting byte is sent. -/
  | chainBusyLow
  /-- BUSY_TIMEOUT (R71): A busy wait reaching the busy timeout aborts the transfer with STUCK_BUSY. -/
  | busyTimeout
  /-- CHAIN_LATCH (R72): The latch pulse ends a transfer, then the loop evaluation is made and the previous snapshot updated. -/
  | chainLatch
  /-- CHAIN_RETRY_EXPIRY (R75): Expiry of the retry timer in FAULT starts a retry transfer. -/
  | chainRetryExpiry (busy : Bool)
  /-- DRIVE_CONTROL_INTERVAL (R88): The 50 ms control interval measures speed, runs the speed loop, the stall and stop tests, and counts the timers down. -/
  | driveControlInterval
  /-- TACH_EDGE (R85): A rising TACHn edge captures a period into the history or primes the counter. -/
  | tachEdge (d : Fin 4) (units : Nat)
  /-- CAPTURE_OVERFLOW (R86): The capture counter reaching 65,535 empties the period history and unprimes the counter. -/
  | captureOverflow (d : Fin 4)
  /-- STALLED (R94): The stall count reaching the stall time makes the drive STALLED with a notice. -/
  | stalled (d : Fin 4)
  /-- RIDE_END (R91): Expiry of the duration timer stops the ride by RAMP or HOME and sends RIDE_END. -/
  | rideEnd (d : Fin 4)
  /-- HOME_MISSED (R93): Expiry of the home timer makes the drive STOPPED with HOME_MISSED. -/
  | homeMissed (d : Fin 4)
  /-- TRAVEL_FAULT (R96): Expiry of the travel timer makes a TRAVERSE drive FAULT and reports the fault to its crossing. -/
  | travelFault (d : Fin 4)
  /-- RAMP_INTERVAL (R127): The 20 ms ramp interval moves each train's step and works its stops and timers. -/
  | rampInterval
  /-- PROGRESS_TIMEOUT (R127): The progress timer reaching the transit timeout makes the train LOST with cause TIMEOUT. -/
  | progressTimeout (t : Fin 8)
  /-- APPROACH_TIMER_EXPIRY (R127): The approach timer reaching 0 changes the approach phase from TIMING to BRAKING. -/
  | approachTimerExpiry (t : Fin 8)
  /-- BLKSENSE_CHANGE (R105): A change of a block detector starts or stops the block's debounce timer. -/
  | blksenseChange (b : Fin 16) (sensed : Bool)
  /-- OCCUPANCY_CHANGE (R106): The debounce timer reaching its delay changes the block's occupancy, which is acted on according to its reservation state. -/
  | occupancyChange (b : Fin 16)
  /-- TURNOUT_PULSE_END (R116): A coil pulse ends, the position is set, TURNOUT_EVENT is sent, the CDU recharges and a grant pass follows. -/
  | turnoutPulseEnd
  /-- CDU_RECHARGE_END (R116): The recharge ends, the CDU becomes READY and tests the throw queue. -/
  | cduRechargeEnd
  /-- WARNING_TIMER_EXPIRY (R152): Expiry of the warning timer takes the crossing to CLOSING, or to CLOSED when it has no barrier. -/
  | warningTimerExpiry (c : Fin 2)
  /-- SENSE_PIN_CHANGE (R160): A change of a SENSEn pin starts or stops the input's debounce timer. -/
  | sensePinChange (i : Fin 16) (high : Bool)
  /-- SENSE_DEBOUNCE_DONE (R160): The debounce timer reaching the debounce time makes a debounced edge, which may fire the input. -/
  | senseDebounceDone (i : Fin 16)
  /-- REARM_EXPIRY (R161): Expiry of the rearm timer rearms the input and fires a HIGH or LOW input still at its level. -/
  | rearmExpiry (i : Fin 16)
  /-- DOOR_PIN_CHANGE (R165): A change of the DOOR pin starts or stops its 20 ms debounce. -/
  | doorPinChange (high : Bool)
  /-- DOOR_DEBOUNCE_DONE (R166): The door debounce completing is a door opening or closing, which changes the service state. -/
  | doorDebounceDone
  /-- RESUME_TIMER_EXPIRY (R166): Expiry of the resume timer in RESUME_WAIT returns the scene to NORMAL. -/
  | resumeTimerExpiry
  deriving DecidableEq, Repr

end Sys2Proof
end

