-- ==== Sys2Proof/Decode.lean ====
section
/-! DEFINITION. The block's decoding: which command a frame's kind byte names (the table of chapter 11, section 11.2).
The opcode table gives its rows no bits, so no table word spells a command (log 21, DEDUCED). -/

namespace Sys2Proof

/-- The rows of spec/opcode_table.json give no bits, so no word of theirs spells a command. -/
def decodeTableWord (_nbits _w : Nat) : Option Instr := none

/-- The request command of a frame with this kind, tag and payload (section 11.2); every other kind is UNKNOWN_KIND (R174). -/
def decodeFrame (kind tag : Byte) (payload : List Byte) : Instr :=
  match kind.toNat with
  | 0x01 => .ping tag payload
  | 0x02 => .status tag payload
  | 0x03 => .sceneReset tag payload
  | 0x04 => .noticeMask tag payload
  | 0x05 => .service tag payload
  | 0x06 => .resume tag payload
  | 0x07 => .say tag payload
  | 0x10 => .clockSet tag payload
  | 0x11 => .clockRun tag payload
  | 0x12 => .clockHold tag payload
  | 0x13 => .clockStop tag payload
  | 0x14 => .curveLoad tag payload
  | 0x15 => .syncMode tag payload
  | 0x16 => .clockMark tag payload
  | 0x17 => .phaseConfig tag payload
  | 0x18 => .clockQuery tag payload
  | 0x1A => .cueAdd tag payload
  | 0x1B => .cueRemove tag payload
  | 0x1C => .cueEnable tag payload
  | 0x1D => .cueQuery tag payload
  | 0x20 => .lightConfig tag payload
  | 0x21 => .lightSet tag payload
  | 0x22 => .groupSet tag payload
  | 0x23 => .lightQuery tag payload
  | 0x24 => .chainConfig tag payload
  | 0x25 => .chainQuery tag payload
  | 0x30 => .driveConfig tag payload
  | 0x31 => .driveTune tag payload
  | 0x32 => .driveRun tag payload
  | 0x33 => .driveStop tag payload
  | 0x34 => .driveMove tag payload
  | 0x35 => .driveQuery tag payload
  | 0x40 => .blockConfig tag payload
  | 0x41 => .pathAdd tag payload
  | 0x42 => .pathClear tag payload
  | 0x43 => .turnoutConfig tag payload
  | 0x44 => .turnoutSet tag payload
  | 0x45 => .blockQuery tag payload
  | 0x46 => .turnoutQuery tag payload
  | 0x47 => .cduConfig tag payload
  | 0x48 => .trainPlace tag payload
  | 0x49 => .trainRemove tag payload
  | 0x4A => .trainRoute tag payload
  | 0x4B => .trainSpeed tag payload
  | 0x4C => .trainStop tag payload
  | 0x4D => .trainQuery tag payload
  | 0x50 => .crossingConfig tag payload
  | 0x51 => .crossingReset tag payload
  | 0x52 => .crossingQuery tag payload
  | 0x58 => .inputConfig tag payload
  | 0x59 => .inputBind tag payload
  | 0x5A => .inputQuery tag payload
  | 0x5B => .doorConfig tag payload
  | _ => .unknownKind kind tag payload

/-- A kind is a request kind when it is one of the kinds of section 11.2 (R174). -/
def isRequestKind (kind : Byte) : Bool :=
  match decodeFrame kind 0 [] with
  | .unknownKind .. => false
  | _ => true

/-- The frame (kind, tag, payload) that a request command stands for; none for a step that is no request. -/
def frameOf : Instr → Option (Byte × Byte × List Byte)
  | .ping tag payload => some (0x01, tag, payload)
  | .status tag payload => some (0x02, tag, payload)
  | .sceneReset tag payload => some (0x03, tag, payload)
  | .noticeMask tag payload => some (0x04, tag, payload)
  | .service tag payload => some (0x05, tag, payload)
  | .resume tag payload => some (0x06, tag, payload)
  | .say tag payload => some (0x07, tag, payload)
  | .clockSet tag payload => some (0x10, tag, payload)
  | .clockRun tag payload => some (0x11, tag, payload)
  | .clockHold tag payload => some (0x12, tag, payload)
  | .clockStop tag payload => some (0x13, tag, payload)
  | .curveLoad tag payload => some (0x14, tag, payload)
  | .syncMode tag payload => some (0x15, tag, payload)
  | .clockMark tag payload => some (0x16, tag, payload)
  | .phaseConfig tag payload => some (0x17, tag, payload)
  | .clockQuery tag payload => some (0x18, tag, payload)
  | .cueAdd tag payload => some (0x1A, tag, payload)
  | .cueRemove tag payload => some (0x1B, tag, payload)
  | .cueEnable tag payload => some (0x1C, tag, payload)
  | .cueQuery tag payload => some (0x1D, tag, payload)
  | .lightConfig tag payload => some (0x20, tag, payload)
  | .lightSet tag payload => some (0x21, tag, payload)
  | .groupSet tag payload => some (0x22, tag, payload)
  | .lightQuery tag payload => some (0x23, tag, payload)
  | .chainConfig tag payload => some (0x24, tag, payload)
  | .chainQuery tag payload => some (0x25, tag, payload)
  | .driveConfig tag payload => some (0x30, tag, payload)
  | .driveTune tag payload => some (0x31, tag, payload)
  | .driveRun tag payload => some (0x32, tag, payload)
  | .driveStop tag payload => some (0x33, tag, payload)
  | .driveMove tag payload => some (0x34, tag, payload)
  | .driveQuery tag payload => some (0x35, tag, payload)
  | .blockConfig tag payload => some (0x40, tag, payload)
  | .pathAdd tag payload => some (0x41, tag, payload)
  | .pathClear tag payload => some (0x42, tag, payload)
  | .turnoutConfig tag payload => some (0x43, tag, payload)
  | .turnoutSet tag payload => some (0x44, tag, payload)
  | .blockQuery tag payload => some (0x45, tag, payload)
  | .turnoutQuery tag payload => some (0x46, tag, payload)
  | .cduConfig tag payload => some (0x47, tag, payload)
  | .trainPlace tag payload => some (0x48, tag, payload)
  | .trainRemove tag payload => some (0x49, tag, payload)
  | .trainRoute tag payload => some (0x4A, tag, payload)
  | .trainSpeed tag payload => some (0x4B, tag, payload)
  | .trainStop tag payload => some (0x4C, tag, payload)
  | .trainQuery tag payload => some (0x4D, tag, payload)
  | .crossingConfig tag payload => some (0x50, tag, payload)
  | .crossingReset tag payload => some (0x51, tag, payload)
  | .crossingQuery tag payload => some (0x52, tag, payload)
  | .inputConfig tag payload => some (0x58, tag, payload)
  | .inputBind tag payload => some (0x59, tag, payload)
  | .inputQuery tag payload => some (0x5A, tag, payload)
  | .doorConfig tag payload => some (0x5B, tag, payload)
  | .unknownKind kind tag payload => some (kind, tag, payload)
  | _ => none

end Sys2Proof
end

