-- ==== Sys2Proof/Config.lean ====
section
/-! DEFINITION. The values that the spec leaves free. A free value is a constant without a body, so no proof can
lean on what it is. -/

namespace Sys2Proof.Config

/-- FREE VALUE (log 12, DESIGN CHOICE): the byte that the loop return gives when the model's own time completes a chain byte (R69). -/
opaque chainReturn : Nat → Byte

/-- FREE VALUE (log 11, DESIGN CHOICE): the target of a train in APPROACH whose approach phase is none with no stop pending, a case
that R125 does not state; taken modulo 128, the range of a target (R124). -/
opaque phaselessTarget : Nat → Nat

end Sys2Proof.Config
end

