-- ==== Sys2Proof/Machine/State.lean ====
section
/-! DEFINITION. The state of the LW-640 as plain data, unit by unit in the order of the chapters, with the values after a
power-on reset. Identifiers are numbers from 0; a timer that a periodic step counts is kept in ms, one that real time counts
in microseconds (log 10, DESIGN CHOICE). -/

namespace Sys2Proof.Machine

/-! ## Results, frames, stored actions -/

/-- The result of a request (R174, section 11.5). -/
inductive Result where
  | ok | unknownKind | badLength | badArgument | noSuchObject | stateConflict | tableFull | locked | noPath | adjusted
  deriving DecidableEq, Repr

/-- A frame without its start, length and check bytes (chapter 11). -/
structure Frame where
  kind : Byte
  tag : Byte
  payload : List Byte
  deriving DecidableEq, Repr

/-- A stored action: a request kind and its payload (R28). -/
structure StoredAction where
  kind : Byte
  payload : List Byte
  deriving DecidableEq, Repr

/-- Where a request or stored action comes from (R33, R36). -/
inductive Source where
  | host
  | cue (id : Nat)
  | input (i : Fin 16)
  deriving DecidableEq, Repr

/-- An entry of the action queue (R33). -/
structure ActionEntry where
  source : Source
  action : StoredAction
  deriving DecidableEq, Repr

/-! ## Scene clock (chapter 1) -/

/-- Clock state (R1). -/
inductive ClockState where
  | stopped | running | held
  deriving DecidableEq, Repr

/-- DAY or NIGHT (R12). -/
inductive Phase where
  | day | night
  deriving DecidableEq, Repr

/-- Sync mode (R14); LOCAL is `alone`, since `local` is a word of Lean's. -/
inductive SyncMode where
  | alone | leader | follower
  deriving DecidableEq, Repr

/-- Sync state (R1); NONE is `idle`. -/
inductive SyncState where
  | idle | seeking | locked | lost
  deriving DecidableEq, Repr

/-- The SYNC pin as the part drives it (R1). -/
inductive SyncPin where
  | low | high | undriven
  deriving DecidableEq, Repr

/-- A point of the daylight curve (R8). -/
structure CurvePoint where
  minute : Nat
  level : Nat
  deriving DecidableEq, Repr

/-- The scene clock (R1). Model time and scan position are in tenths of a model second. -/
structure Clock where
  state : ClockState
  time : Nat
  rate : Nat
  days : Nat
  scan : Nat
  holdRunning : Bool
  holdMs : Nat
  curve : List CurvePoint
  level : Nat
  phase : Phase
  threshold : Nat
  hysteresis : Nat
  mode : SyncMode
  sync : SyncState
  advance : Nat
  pin : SyncPin
  pulseUs : Nat
  deriving DecidableEq, Repr

/-- The clock's power-on values (R1). -/
def Clock.reset : Clock :=
  { state := .stopped, time := 0, rate := 60, days := 0, scan := 0, holdRunning := false, holdMs := 0,
    curve := [⟨300, 0⟩, ⟨420, 1000⟩, ⟨1140, 1000⟩, ⟨1260, 0⟩], level := 0, phase := .night, threshold := 300,
    hysteresis := 50, mode := .alone, sync := .idle, advance := 0, pin := .undriven, pulseUs := 0 }

/-! ## Cue unit and dispatcher (chapter 2) -/

/-- A cue record (R22); the time is in model seconds. -/
structure Cue where
  id : Nat
  time : Nat
  enabled : Bool
  action : StoredAction
  deriving DecidableEq, Repr

/-- The chain clock rates (R66). -/
inductive ChainClock where
  | khz125 | khz250 | khz500 | khz1000
  deriving DecidableEq, Repr

/-- The seven settings of the lamp chain (R76). -/
structure ChainSettings where
  modules : Nat
  clock : ChainClock
  interval : Nat
  handshake : Bool
  timeoutMs : Nat
  loopCheck : Bool
  threshold : Nat
  deriving DecidableEq, Repr

/-- A CHAIN_CONFIG that the dispatcher has taken and that waits for the byte boundary (R78): its tag (its reply slot is
reserved), its settings, and whether a value was clamped. -/
structure ChainWait where
  tag : Byte
  settings : ChainSettings
  adjusted : Bool
  deriving DecidableEq, Repr

/-- The dispatcher (R33, R34): its action queue, and the item in performance where one outlasts its step. -/
structure Dispatcher where
  actions : List ActionEntry
  busy : Option ChainWait
  deriving DecidableEq, Repr

/-! ## Lighting engine (chapter 3) -/

/-- Response curve (R59). -/
inductive Response where
  | linear | square
  deriving DecidableEq, Repr

/-- The switching mode of a NIGHT channel (R49). -/
inductive NightMode where
  | followPhase | thresholds
  deriving DecidableEq, Repr

/-- Signal aspect (R108). -/
inductive Aspect where
  | clear | stop
  deriving DecidableEq, Repr

/-- A channel's role with its parameters (R40, R46 to R56). -/
inductive Role where
  | off
  | fixed
  | daylight (gain : Nat) (invert : Bool)
  | night (onLevel : Nat) (mode : NightMode) (onBelow offAbove stagger warmMs : Nat)
  | flicker (min max period : Nat)
  | blink (level onFrames offFrames : Nat)
  | breathe (min max period : Nat)
  | signal (block : Fin 16) (aspect : Aspect) (level : Nat)
  | crossing (crossing : Fin 2) (side : Bool) (level : Nat)
  deriving DecidableEq, Repr

/-- A fade record (R44): start level, end level, total frames N and elapsed frames k. -/
structure Fade where
  start : Nat
  stop : Nat
  total : Nat
  elapsed : Nat
  deriving DecidableEq, Repr

/-- Switching state of a NIGHT channel (R40). -/
inductive Switching where
  | off | pendingOn | on | pendingOff
  deriving DecidableEq, Repr

/-- A channel record (R40). -/
structure Channel where
  role : Role
  group : Option (Fin 16)
  response : Response
  service : Bool
  fade : Fade
  switching : Switching
  remaining : Nat
  position : Nat
  held : Nat
  base : Nat
  scaled : Nat
  level : Nat
  output : Nat
  deriving DecidableEq, Repr

/-- A channel's power-on values (R40). -/
def Channel.reset : Channel :=
  { role := .off, group := none, response := .linear, service := false, fade := ⟨0, 0, 0, 0⟩, switching := .off,
    remaining := 0, position := 0, held := 0, base := 0, scaled := 0, level := 0, output := 0 }

/-- The lighting engine: 128 channels, 16 group fades whose outputs are the group scales (R41), the LFSR (R57) and the flash
position (R56). -/
structure Lighting where
  channels : Vector Channel 128
  groups : Vector Fade 16
  lfsr : Lfsr
  flash : Nat
  deriving DecidableEq, Repr

/-- The lighting engine's power-on values (R40, R41, R56, R57). -/
def Lighting.reset : Lighting :=
  { channels := Vector.replicate 128 Channel.reset, groups := Vector.replicate 16 ⟨1000, 1000, 0, 0⟩, lfsr := 0xACE1#16,
    flash := 0 }

/-! ## Lamp chain (chapter 4) -/

/-- Chain state (R66). -/
inductive ChainState where
  | off | idle | sending | fault
  deriving DecidableEq, Repr

/-- Fault cause of the chain (R66); NONE is `clear`. -/
inductive ChainCause where
  | clear | stuckBusy | loopError
  deriving DecidableEq, Repr

/-- What the chain's wire is doing during a transfer, with the time left in microseconds: shifting a byte (R69), waiting the
byte interval or in a busy wait (R70, R71), or giving the latch pulse (R72). -/
inductive Wire where
  | quiet
  | shifting (left : Nat)
  | interval (left : Nat)
  | busyWait (left : Nat)
  | latching (left : Nat)
  deriving DecidableEq, Repr

/-- The lamp chain (R66). `retrying` is retry phase SENDING; `busyPin` is the level of CHAIN_BUSY as last seen. -/
structure Chain where
  settings : ChainSettings
  state : ChainState
  cause : ChainCause
  retrying : Bool
  retryRunning : Bool
  retryUs : Nat
  buffer : Vector Byte 96
  snapshot : List Byte
  pointer : Nat
  previous : List Byte
  previousValid : Bool
  mismatch : Nat
  cumulative : Nat
  late : Nat
  failed : Nat
  wire : Wire
  busyPin : Bool
  deriving DecidableEq, Repr

/-- The lamp chain's power-on values (R66). -/
def Chain.reset : Chain :=
  { settings := { modules := 0, clock := .khz250, interval := 0, handshake := false, timeoutMs := 20, loopCheck := false,
                  threshold := 4 },
    state := .off, cause := .clear, retrying := false, retryRunning := false, retryUs := 0,
    buffer := Vector.replicate 96 0, snapshot := [], pointer := 0, previous := [], previousValid := false, mismatch := 0,
    cumulative := 0, late := 0, failed := 0, wire := .quiet, busyPin := false }

/-! ## Drive unit (chapter 5) -/

/-- Capture unit of a ROTARY drive (R83). -/
inductive CaptureUnit where
  | us1 | us16 | us256
  deriving DecidableEq, Repr

/-- Ride end setting (R91). -/
inductive RideEnd where
  | ramp | home
  deriving DecidableEq, Repr

/-- State of a ROTARY drive (R82). -/
inductive RotaryState where
  | stopped | running | stopping | homing | stalled
  deriving DecidableEq, Repr

/-- State of a TRAVERSE drive (R82). -/
inductive TraverseState where
  | mid | movingOpen | atOpen | movingClosed | atClosed | fault
  deriving DecidableEq, Repr

/-- Direction of a drive (R82): `low` is FORWARD or toward CLOSED, `high` is REVERSE or toward OPEN. -/
inductive Direction where
  | low | high
  deriving DecidableEq, Repr

/-- An end of a TRAVERSE drive (R95); OPEN is `opened`, since `open` is a word of Lean's. -/
inductive End where
  | opened | closed
  deriving DecidableEq, Repr

/-- Settings and state of a ROTARY drive (R82, R83). `subUs` counts microseconds toward the next capture unit (R85). -/
structure Rotary where
  ppr : Nat
  unit : CaptureUnit
  dutyMax : Nat
  ramp : Nat
  creep : Nat
  stallDuty : Nat
  stallMs : Nat
  homeS : Nat
  rideEnd : RideEnd
  state : RotaryState
  target : Nat
  setpoint : Nat
  integral : Int
  speed : Nat
  counter : Nat
  subUs : Nat
  primed : Bool
  history : List Nat
  stall : Nat
  durationRunning : Bool
  durationMs : Nat
  homeRunning : Bool
  homeMs : Nat
  deriving DecidableEq, Repr

/-- Settings and state of a TRAVERSE drive (R82, R83). -/
structure Traverse where
  travelDuty : Nat
  timeoutMs : Nat
  state : TraverseState
  travelRunning : Bool
  travelMs : Nat
  deriving DecidableEq, Repr

/-- The kind of a drive with the items that the kind has (R82). -/
inductive DriveKind where
  | unconfigured
  | rotary (r : Rotary)
  | traverse (t : Traverse)
  deriving DecidableEq, Repr

/-- A drive record (R82). -/
structure Drive where
  kind : DriveKind
  kp : Nat
  ki : Nat
  duty : Nat
  direction : Direction
  bound : Option (Fin 2)
  deriving DecidableEq, Repr

/-- A drive's power-on values (R82). -/
def Drive.reset : Drive := { kind := .unconfigured, kp := 40, ki := 4, duty := 0, direction := .low, bound := none }

/-! ## Blocks, paths and turnouts (chapter 6) -/

/-- Track polarity (R103). -/
inductive Polarity where
  | fwd | rev
  deriving DecidableEq, Repr

/-- A position of a turnout (R112). -/
inductive Points where
  | normal | diverge
  deriving DecidableEq, Repr

/-- Reservation state of a block (R107). -/
inductive Reservation where
  | free | setting | reserved
  deriving DecidableEq, Repr

/-- A turnout requirement of a path (R110). -/
structure Need where
  turnout : Fin 8
  position : Points
  deriving DecidableEq, Repr

/-- A path table entry (R110). -/
structure Path where
  src : Fin 16
  dst : Fin 16
  polarity : Polarity
  needs : List Need
  deriving DecidableEq, Repr

/-- A block record (R103), without the aspect and the duty, which follow from the other items (R108, R109; log 9, DEDUCED). -/
structure Block where
  configured : Bool
  onMs : Nat
  offMs : Nat
  approachSpeed : Nat
  approachMs : Nat
  transitS : Nat
  detector : Bool
  occupied : Bool
  debounceRunning : Bool
  debounceUs : Nat
  reservation : Reservation
  holder : Option (Fin 8)
  grant : Option Path
  polarity : Polarity
  waiting : List (Fin 8)
  deriving DecidableEq, Repr

/-- A block's power-on values with its detector as the pin reads (R103). -/
def Block.reset (detector : Bool) : Block :=
  { configured := false, onMs := 30, offMs := 500, approachSpeed := 24, approachMs := 0, transitS := 30, detector := detector,
    occupied := false, debounceRunning := false, debounceUs := 0, reservation := .free, holder := none, grant := none,
    polarity := .fwd, waiting := [] }

/-- A turnout record (R112), without the throw state, which follows from the targets (log 9, DEDUCED). Position none is UNKNOWN. -/
structure Turnout where
  position : Option Points
  queued : Option Points
  firing : Option Points
  locks : Nat
  lockedAt : Option Points
  pulseMs : Nat
  deriving DecidableEq, Repr

/-- A turnout's power-on values (R112). -/
def Turnout.reset : Turnout :=
  { position := none, queued := none, firing := none, locks := 0, lockedAt := none, pulseMs := 60 }

/-- State of the discharge unit (R115); FIRING names the turnout whose coil is driven. -/
inductive CduState where
  | ready
  | firing (t : Fin 8)
  | recharging
  deriving DecidableEq, Repr

/-- The discharge unit (R115). -/
structure Cdu where
  state : CduState
  leftUs : Nat
  rechargeMs : Nat
  deriving DecidableEq, Repr

/-! ## Trains (chapter 7) -/

/-- State of a train (R125). -/
inductive TrainState where
  | free | stopped | running | approach | waiting | lost | fault
  deriving DecidableEq, Repr

/-- Cause of LOST or FAULT (R124); none is `clear`. -/
inductive TrainCause where
  | clear | headClear | timeout | overrun | intrusion
  deriving DecidableEq, Repr

/-- Approach phase (R142); none is `inactive`. -/
inductive ApproachPhase where
  | inactive | marker | timing | braking
  deriving DecidableEq, Repr

/-- A train record (R124), without the target, which follows from the state (R125; log 9, DEDUCED). -/
structure Train where
  state : TrainState
  cause : TrainCause
  head : Option (Fin 16)
  tail : Option (Fin 16)
  next : Option (Fin 16)
  route : List (Fin 16)
  speed : Nat
  step : Nat
  accel : Nat
  decel : Nat
  kick : Nat
  ramp : Nat
  stopPending : Bool
  phase : ApproachPhase
  approachMs : Nat
  progressMs : Nat
  waitingFor : Option (Fin 16)
  deriving DecidableEq, Repr

/-- The values of a FREE train record (R124). -/
def Train.reset : Train :=
  { state := .free, cause := .clear, head := none, tail := none, next := none, route := [], speed := 0, step := 0, accel := 1,
    decel := 1, kick := 0, ramp := 0, stopPending := false, phase := .inactive, approachMs := 0, progressMs := 0,
    waitingFor := none }

/-! ## Level crossings (chapter 8) -/

/-- State of a configured crossing (R149); OPEN is `opened`. -/
inductive CrossingState where
  | opened | warning | closing | closed | opening | fault
  deriving DecidableEq, Repr

/-- A crossing record (R149). It is configured exactly when it has a protected block. -/
structure Crossing where
  block : Option (Fin 16)
  barrier : Option (Fin 4)
  warningMs : Nat
  state : Option CrossingState
  timerRunning : Bool
  timerUs : Nat
  deriving DecidableEq, Repr

/-- A crossing's power-on values (R149). -/
def Crossing.reset : Crossing :=
  { block := none, barrier := none, warningMs := 3000, state := none, timerRunning := false, timerUs := 0 }

/-! ## Sense inputs, door and service state (chapter 9) -/

/-- Trigger of an input (R159); NONE is `never`. -/
inductive Trigger where
  | never | rising | falling | change | low | high
  deriving DecidableEq, Repr

/-- Use of an input with its object (R159). -/
inductive Use where
  | general
  | stopMarker (b : Fin 16)
  | index (d : Fin 4)
  | endOpen (d : Fin 4)
  | endClosed (d : Fin 4)
  deriving DecidableEq, Repr

/-- An input record (R159); true is high. -/
structure Input where
  trigger : Trigger
  debounceMs : Nat
  use : Use
  pin : Bool
  level : Bool
  debounceRunning : Bool
  debounceUs : Nat
  action : Option StoredAction
  rearmS : Nat
  notice : Bool
  rearmRunning : Bool
  rearmUs : Nat
  deriving DecidableEq, Repr

/-- An input's power-on values with its pin as it reads (R159). -/
def Input.reset (pin : Bool) : Input :=
  { trigger := .never, debounceMs := 10, use := .general, pin := pin, level := pin, debounceRunning := false, debounceUs := 0,
    action := none, rearmS := 0, notice := false, rearmRunning := false, rearmUs := 0 }

/-- The DOOR pin, its debounced level and its 20 ms debounce (R165); true is high, which is open. -/
structure Door where
  pin : Bool
  level : Bool
  debounceRunning : Bool
  debounceUs : Nat
  deriving DecidableEq, Repr

/-- The door after a power-on reset, its debounced level taken from the pin (R165). -/
def Door.reset (pin : Bool) : Door := { pin := pin, level := pin, debounceRunning := false, debounceUs := 0 }

/-- Service state (R165). -/
inductive ServiceState where
  | normal | service | resumeWait
  deriving DecidableEq, Repr

/-- Cause of the service state (R165); none is `clear`. -/
inductive ServiceCause where
  | clear | door | request
  deriving DecidableEq, Repr

/-- The service state's items (R165). -/
structure Service where
  state : ServiceState
  cause : ServiceCause
  autoResumeS : Nat
  resumeRunning : Bool
  resumeUs : Nat
  deriving DecidableEq, Repr

/-- The service state after a power-on reset: SERVICE with cause DOOR if the door reads open, NORMAL otherwise (R165). -/
def Service.reset (doorOpen : Bool) : Service :=
  { state := if doorOpen then .service else .normal, cause := if doorOpen then .door else .clear, autoResumeS := 0,
    resumeRunning := false, resumeUs := 0 }

/-! ## Notices (the notice table of chapter 11) -/

/-- CLOCK_EVENT (R21). -/
inductive ClockEvent where
  | day (count : Nat)
  | holdEnd
  | dusk (level : Nat)
  | dawn (level : Nat)
  | syncLocked (tenths : Nat)
  | syncLost
  deriving DecidableEq, Repr

/-- TRAIN_EVENT (R148). -/
inductive TrainEvent where
  | entered (head : Fin 16) (tail : Option (Fin 16))
  | waiting (block : Fin 16) (place : Nat)
  | routeDone (head : Option (Fin 16))
  | stopped (head : Option (Fin 16))
  | lost (cause : TrainCause) (head : Option (Fin 16))
  | fault (cause : TrainCause) (head : Option (Fin 16)) (seen : Fin 16)
  deriving DecidableEq, Repr

/-- DRIVE_EVENT (R102); RIDE_END carries the stop mode applied. -/
inductive DriveEvent where
  | stalled (target duty : Nat)
  | homed
  | homeMissed
  | rideEnd (mode : RideEnd)
  | atEnd (x : End)
  | travelFault (x : End)
  deriving DecidableEq, Repr

/-- CROSSING_EVENT (R158). -/
inductive CrossingEvent where
  | closed (block : Option (Fin 16)) (holder : Option (Fin 8))
  | opened (block : Option (Fin 16))
  | fault (x : End) (reservation : Option Reservation)
  deriving DecidableEq, Repr

/-- CHAIN_EVENT (R81). -/
inductive ChainEvent where
  | fault (cause : ChainCause) (mismatch pointer : Nat)
  | restored (failed : Nat)
  deriving DecidableEq, Repr

/-- What became of a GENERAL firing's action (R162). -/
inductive Disposition where
  | unbound | queued | discarded | heldOut
  deriving DecidableEq, Repr

/-- A notice without its time stamp (the notice table of chapter 11). -/
inductive Notice where
  | ready (rate : Fin 4) (state : ServiceState)
  | noticesLost (count : Nat)
  | clock (e : ClockEvent)
  | say (code : Byte) (source : Source)
  | actionFailed (source : Source) (kind : Byte) (result : Result)
  | train (t : Fin 8) (e : TrainEvent)
  | intrusion (b : Fin 16)
  | turnout (t : Fin 8) (position : Option Points)
  | drive (d : Fin 4) (e : DriveEvent)
  | crossing (c : Fin 2) (e : CrossingEvent)
  | chain (e : ChainEvent)
  | input (i : Fin 16) (level : Bool) (disposition : Disposition)
  | service (state : ServiceState) (cause : ServiceCause) (previous : ServiceState)
  deriving DecidableEq, Repr

/-- A notice with the model time, in whole seconds, at which it was sent (R176). -/
structure Stamped where
  time : Nat
  notice : Notice
  deriving DecidableEq, Repr

/-! ## Message link (chapter 10) -/

/-- State of the frame assembler (R172, R173). In BODY and CHECK the bytes from the length on are held; BODY also holds how
many are still to come. -/
inductive Assembler where
  | hunt
  | length
  | body (bytes : List Byte) (left : Nat)
  | check (bytes : List Byte)
  | discardLength
  | discardBody (left : Nat)
  deriving DecidableEq, Repr

/-- The transmitter (R175): idle, sending the oldest reply, or sending a notice; `left` is the time left in 1/36 us. -/
inductive Transmitter where
  | idle
  | reply (left : Nat)
  | notice (n : Stamped) (left : Nat)
  deriving DecidableEq, Repr

/-- The five rejection counters (R172, R173). -/
structure Rejections where
  length : Nat
  check : Nat
  byte : Nat
  gap : Nat
  full : Nat
  deriving DecidableEq, Repr

/-- The link port. `gap` is the gap timer's elapsed time in 1/36 us, where it runs. `replies` are the pending replies, oldest
first; the one being sent stands at the head until its last character (R174). -/
structure Link where
  rate : Fin 4
  assembler : Assembler
  gap : Option Nat
  slots : List Frame
  replies : List Frame
  transmitter : Transmitter
  notices : List Stamped
  mask : Byte
  lost : Nat
  rejections : Rejections
  deriving DecidableEq, Repr

/-- The link port after a power-on reset (R180): the notice queue holds the READY notice alone, stamped with model time 0. -/
def Link.reset (rate : Fin 4) (svc : ServiceState) : Link :=
  { rate := rate, assembler := .hunt, gap := none, slots := [], replies := [], transmitter := .idle,
    notices := [⟨0, .ready rate svc⟩], mask := 0xFF#8, lost := 0, rejections := ⟨0, 0, 0, 0, 0⟩ }

/-- The four periodic timers (00_scope.md 3.2): microseconds since each unit's last periodic step (log 8, DESIGN CHOICE). -/
structure Periods where
  clockUs : Nat
  frameUs : Nat
  rampUs : Nat
  controlUs : Nat
  deriving DecidableEq, Repr

/-! ## The whole machine -/

/-- The state of the LW-640. `pending` is the queue of commands that wait and `freeCount` the counter that free values are
drawn with; both are the model's own. -/
structure State where
  pending : List Instr
  clock : Clock
  cues : List Cue
  due : List Nat
  dispatcher : Dispatcher
  lighting : Lighting
  chain : Chain
  drives : Vector Drive 4
  blocks : Vector Block 16
  paths : List Path
  turnouts : Vector Turnout 8
  throwQueue : List (Fin 8)
  cdu : Cdu
  trains : Vector Train 8
  crossings : Vector Crossing 2
  inputs : Vector Input 16
  door : Door
  service : Service
  link : Link
  periods : Periods
  freeCount : Nat
  deriving DecidableEq, Repr

/-- What stops the machine: nothing does (INVENTORY.md, Faults), so there is no constructor. Safe: no fault is ever answered. -/
inductive Fault where
  deriving DecidableEq, Repr

/-- Why a command is given no meaning. -/
inductive Refusal where
  /-- Raised by `exec` for a command that has no meaning yet; no arm does. Safe: the model stops. -/
  | notModelled (mnemonic : String)
  /-- Raised by a request command whose payload is longer than a frame can carry, and by an UNKNOWN_KIND whose kind is a request
  kind: no such command exists (log 27, DESIGN CHOICE). Safe: the model stops. -/
  | illFormed
  deriving DecidableEq, Repr

/-- The levels of the pins that a power-on reset reads (R103, R159, R165, R170). -/
structure Pins where
  rate : Fin 4
  door : Bool
  chainBusy : Bool
  sense : Vector Bool 16
  blockSense : Vector Bool 16
  deriving DecidableEq, Repr

/-- The machine right after a power-on reset with these pin levels (R180): every unit takes its reset values. -/
def State.powerOn (p : Pins) (pending : List Instr) (freeCount : Nat) : State :=
  { pending := pending, clock := Clock.reset, cues := [], due := [], dispatcher := ⟨[], none⟩, lighting := Lighting.reset,
    chain := { Chain.reset with busyPin := p.chainBusy }, drives := Vector.replicate 4 Drive.reset,
    blocks := Vector.ofFn fun b => Block.reset p.blockSense[b], paths := [], turnouts := Vector.replicate 8 Turnout.reset,
    throwQueue := [], cdu := ⟨.recharging, 500000, 500⟩, trains := Vector.replicate 8 Train.reset,
    crossings := Vector.replicate 2 Crossing.reset, inputs := Vector.ofFn fun i => Input.reset p.sense[i],
    door := Door.reset p.door, service := Service.reset p.door,
    link := Link.reset p.rate (Service.reset p.door).state, periods := ⟨0, 0, 0, 0⟩, freeCount := freeCount }

/-- The machine right after reset, with every pin low and the rate straps low (DESIGN CHOICE, log 6), and no command waiting. -/
def State.reset : State :=
  State.powerOn { rate := 0, door := false, chainBusy := false, sense := Vector.replicate 16 false,
                  blockSense := Vector.replicate 16 false } [] 0

end Sys2Proof.Machine
end

