-- ==== Sys2Proof/Machine/Operands.lean ====
section
/-! DEFINITION. The encoding of payload fields (R181) and the codes of the enumerations (section 11.5): how the bytes of a
request become operands, and how values become bytes of a reply or notice. -/

namespace Sys2Proof.Machine

/-! ## Numbers -/

/-- A two-byte number, most significant byte first (R181). -/
def be2 (a b : Byte) : Nat := a.toNat * 256 + b.toNat

/-- A three-byte number, most significant byte first (R181). -/
def be3 (a b c : Byte) : Nat := (a.toNat * 256 + b.toNat) * 256 + c.toNat

/-- One byte of a reply or notice. -/
def out1 (n : Nat) : List Byte := [BitVec.ofNat 8 n]

/-- A two-byte number of a reply or notice, most significant byte first (R181). -/
def out2 (n : Nat) : List Byte := [BitVec.ofNat 8 (n / 256), BitVec.ofNat 8 n]

/-- A three-byte number of a reply or notice, most significant byte first (R181). -/
def out3 (n : Nat) : List Byte := [BitVec.ofNat 8 (n / 65536), BitVec.ofNat 8 (n / 256), BitVec.ofNat 8 n]

/-- The signed two-byte field, in two's complement (R181). -/
def outSigned (n : Int) : List Byte := out2 ((n % 65536).toNat)

/-- A flag of a reply (R181). -/
def outFlag (b : Bool) : List Byte := [if b then 1#8 else 0#8]

/-- n unused bytes of a reply or notice, each 0xFF (R181). -/
def unused (n : Nat) : List Byte := List.replicate n 0xFF#8

/-- A field that names an object and holds 0xFF for none (R181). -/
def outObject {n : Nat} : Option (Fin n) → List Byte
  | some x => out1 x.val
  | none => unused 1

/-- Bytes filled up to n with unused bytes (R181). -/
def padTo (n : Nat) (bytes : List Byte) : List Byte := bytes ++ unused (n - bytes.length)

/-- A quantity replaced by the nearest limit of its range (00_scope.md 6.2). -/
def clamp (lo hi n : Nat) : Nat := max lo (min hi n)

/-- The object with this number, if the unit has one (R174: an identifier is never clamped). -/
def object (n : Nat) (b : Byte) : Option (Fin n) :=
  if h : b.toNat < n then some ⟨b.toNat, h⟩ else none

/-- An object field that may be none: `none` where the byte names no object and is not 0xFF (R181). -/
def objectOrNone (n : Nat) (b : Byte) : Option (Option (Fin n)) :=
  if b = 0xFF#8 then some none else (object n b).map some

/-- A flag of a request: 0 or 1, any other value refused (R181). -/
def flag (b : Byte) : Option Bool :=
  if b = 0#8 then some false else if b = 1#8 then some true else none

/-! ## Codes of requests (section 11.5) -/

def syncModeOf (b : Byte) : Option SyncMode :=
  match b.toNat with | 0 => some .alone | 1 => some .leader | 2 => some .follower | _ => none

def responseOf (b : Byte) : Option Response :=
  match b.toNat with | 0 => some .linear | 1 => some .square | _ => none

def nightModeOf (b : Byte) : Option NightMode :=
  match b.toNat with | 0 => some .followPhase | 1 => some .thresholds | _ => none

def aspectOf (b : Byte) : Option Aspect :=
  match b.toNat with | 0 => some .clear | 1 => some .stop | _ => none

def chainClockOf (b : Byte) : Option ChainClock :=
  match b.toNat with | 0 => some .khz125 | 1 => some .khz250 | 2 => some .khz500 | 3 => some .khz1000 | _ => none

def captureUnitOf (b : Byte) : Option CaptureUnit :=
  match b.toNat with | 0 => some .us1 | 1 => some .us16 | 2 => some .us256 | _ => none

def rideEndOf (b : Byte) : Option RideEnd :=
  match b.toNat with | 0 => some .ramp | 1 => some .home | _ => none

def directionOf (b : Byte) : Option Direction :=
  match b.toNat with | 0 => some .low | 1 => some .high | _ => none

def endOf (b : Byte) : Option End :=
  match b.toNat with | 0 => some .opened | 1 => some .closed | _ => none

def polarityOf (b : Byte) : Option Polarity :=
  match b.toNat with | 0 => some .fwd | 1 => some .rev | _ => none

/-- A turnout position of a request: NORMAL 1, DIVERGE 2. -/
def pointsOf (b : Byte) : Option Points :=
  match b.toNat with | 1 => some .normal | 2 => some .diverge | _ => none

def triggerOf (b : Byte) : Option Trigger :=
  match b.toNat with
  | 0 => some .never | 1 => some .rising | 2 => some .falling | 3 => some .change | 4 => some .low | 5 => some .high | _ => none

/-! ## Codes of replies and notices (section 11.5) -/

def Result.code : Result → Nat
  | .ok => 0 | .unknownKind => 1 | .badLength => 2 | .badArgument => 3 | .noSuchObject => 4 | .stateConflict => 5
  | .tableFull => 6 | .locked => 7 | .noPath => 8 | .adjusted => 9

def ClockState.code : ClockState → Nat | .stopped => 0 | .running => 1 | .held => 2
def Phase.code : Phase → Nat | .day => 0 | .night => 1
def SyncMode.code : SyncMode → Nat | .alone => 0 | .leader => 1 | .follower => 2
def SyncState.code : SyncState → Nat | .idle => 0 | .seeking => 1 | .locked => 2 | .lost => 3

def Role.code : Role → Nat
  | .off => 0 | .fixed => 1 | .daylight .. => 2 | .night .. => 3 | .flicker .. => 4 | .blink .. => 5 | .breathe .. => 6
  | .signal .. => 7 | .crossing .. => 8

def Response.code : Response → Nat | .linear => 0 | .square => 1
def NightMode.code : NightMode → Nat | .followPhase => 0 | .thresholds => 1
def Switching.code : Switching → Nat | .off => 0 | .pendingOn => 1 | .on => 2 | .pendingOff => 3
def Aspect.code : Aspect → Nat | .clear => 0 | .stop => 1
def ChainClock.code : ChainClock → Nat | .khz125 => 0 | .khz250 => 1 | .khz500 => 2 | .khz1000 => 3
def ChainState.code : ChainState → Nat | .off => 0 | .idle => 1 | .sending => 2 | .fault => 3
def ChainCause.code : ChainCause → Nat | .clear => 0 | .stuckBusy => 1 | .loopError => 2
def CaptureUnit.code : CaptureUnit → Nat | .us1 => 0 | .us16 => 1 | .us256 => 2
/-- The capture unit in microseconds (R83). -/
def CaptureUnit.us : CaptureUnit → Nat | .us1 => 1 | .us16 => 16 | .us256 => 256
def RideEnd.code : RideEnd → Nat | .ramp => 0 | .home => 1
def RotaryState.code : RotaryState → Nat | .stopped => 0 | .running => 1 | .stopping => 2 | .homing => 3 | .stalled => 4

def TraverseState.code : TraverseState → Nat
  | .mid => 0 | .movingOpen => 1 | .atOpen => 2 | .movingClosed => 3 | .atClosed => 4 | .fault => 5

def Direction.code : Direction → Nat | .low => 0 | .high => 1
def End.code : End → Nat | .opened => 0 | .closed => 1
def Reservation.code : Reservation → Nat | .free => 0 | .setting => 1 | .reserved => 2
def Polarity.code : Polarity → Nat | .fwd => 0 | .rev => 1
def Points.code : Points → Nat | .normal => 1 | .diverge => 2
/-- A turnout's position, UNKNOWN 0. -/
def positionCode : Option Points → Nat | none => 0 | some p => p.code
/-- A turnout's target or locked position, 0xFF for none. -/
def outTarget : Option Points → List Byte | none => unused 1 | some p => out1 p.code
def CduState.code : CduState → Nat | .ready => 0 | .firing _ => 1 | .recharging => 2

def TrainState.code : TrainState → Nat
  | .free => 0 | .stopped => 1 | .running => 2 | .approach => 3 | .waiting => 4 | .lost => 5 | .fault => 6

def TrainCause.code : TrainCause → Nat | .clear => 0 | .headClear => 1 | .timeout => 2 | .overrun => 3 | .intrusion => 4
def ApproachPhase.code : ApproachPhase → Nat | .inactive => 0 | .marker => 1 | .timing => 2 | .braking => 3

def CrossingState.code : CrossingState → Nat
  | .opened => 0 | .warning => 1 | .closing => 2 | .closed => 3 | .opening => 4 | .fault => 5

def Trigger.code : Trigger → Nat | .never => 0 | .rising => 1 | .falling => 2 | .change => 3 | .low => 4 | .high => 5

def Use.code : Use → Nat
  | .general => 0 | .stopMarker _ => 1 | .index _ => 2 | .endOpen _ => 3 | .endClosed _ => 4

/-- The object byte of a use; unused for GENERAL. -/
def Use.object : Use → List Byte
  | .general => unused 1 | .stopMarker b => out1 b.val | .index d => out1 d.val | .endOpen d => out1 d.val
  | .endClosed d => out1 d.val

def Disposition.code : Disposition → Nat | .unbound => 0 | .queued => 1 | .discarded => 2 | .heldOut => 3
def ServiceState.code : ServiceState → Nat | .normal => 0 | .service => 1 | .resumeWait => 2
def ServiceCause.code : ServiceCause → Nat | .clear => 0 | .door => 1 | .request => 2

/-- Source kind code and source number; the number of HOST is unused (R36, R39). -/
def Source.bytes : Source → List Byte
  | .host => out1 0 ++ unused 1 | .cue id => out1 1 ++ out1 id | .input i => out1 2 ++ out1 i.val

/-! ## Stored actions (R28) -/

/-- The kinds that may be stored: LIGHT_SET, GROUP_SET, DRIVE_RUN, DRIVE_STOP, DRIVE_MOVE, TRAIN_ROUTE, TRAIN_SPEED,
TRAIN_STOP, TURNOUT_SET, CLOCK_HOLD and SAY; and whether the payload has the length of the kind, with at most 12 bytes and,
for TRAIN_ROUTE, a block count of 0 to 10 that agrees with the length (R28). -/
def storable (kind : Byte) (payload : List Byte) : Bool :=
  match kind.toNat with
  | 0x21 => payload.length == 5
  | 0x22 => payload.length == 5
  | 0x32 => payload.length == 6
  | 0x33 => payload.length == 2
  | 0x34 => payload.length == 2
  | 0x4A =>
    match payload with
    | b :: _ => b.toNat % 16 ≤ 10 && payload.length == 2 + b.toNat % 16
    | [] => false
  | 0x4B => payload.length == 2
  | 0x4C => payload.length == 2
  | 0x44 => payload.length == 2
  | 0x12 => payload.length == 2
  | 0x07 => payload.length == 1
  | _ => false

end Sys2Proof.Machine
end

