-- ==== Sys2Proof/Machine/Flags.lean ====
section
/-! DEFINITION. The notice class enable flags (R176, R177), the frames of notices (the notice table of chapter 11) and the
check byte of a frame (R171). -/

namespace Sys2Proof.Machine

/-! ## Classes and the mask -/

/-- The bit of a notice's class in the mask (the NOTICE_MASK row of section 11.2); READY and NOTICES_LOST belong to no class. -/
def Notice.maskBit : Notice → Option Nat
  | .ready .. => none
  | .noticesLost _ => none
  | .clock _ => some 0
  | .say .. => some 1
  | .actionFailed .. => some 1
  | .chain _ => some 2
  | .drive .. => some 3
  | .train .. => some 4
  | .intrusion _ => some 4
  | .turnout .. => some 4
  | .crossing .. => some 5
  | .input .. => some 6
  | .service .. => some 7

/-- A notice is enabled by a mask when its class's flag is set, or when it belongs to no class (R176). -/
def Notice.enabled (n : Notice) (mask : Byte) : Bool :=
  match n.maskBit with
  | some k => mask.getLsbD k
  | none => true

/-! ## Frames of notices -/

/-- The kind byte of a notice (the notice table of chapter 11). -/
def Notice.kind : Notice → Byte
  | .ready .. => 0x60#8
  | .noticesLost _ => 0x61#8
  | .clock _ => 0x62#8
  | .say .. => 0x63#8
  | .actionFailed .. => 0x63#8
  | .train .. => 0x64#8
  | .intrusion _ => 0x65#8
  | .turnout .. => 0x66#8
  | .drive .. => 0x67#8
  | .crossing .. => 0x68#8
  | .chain _ => 0x69#8
  | .input .. => 0x6A#8
  | .service .. => 0x6B#8

/-- Event code and data of CLOCK_EVENT (R21). -/
def ClockEvent.bytes : ClockEvent → List Byte
  | .day n => out1 0 ++ out2 n
  | .holdEnd => out1 1 ++ unused 2
  | .dusk d => out1 2 ++ out2 d
  | .dawn d => out1 3 ++ out2 d
  | .syncLocked s => out1 4 ++ out2 s
  | .syncLost => out1 5 ++ unused 2

/-- Event code and data of TRAIN_EVENT (R148). -/
def TrainEvent.bytes : TrainEvent → List Byte
  | .entered h t => out1 0 ++ padTo 3 (out1 h.val ++ outObject t)
  | .waiting b p => out1 1 ++ padTo 3 (out1 b.val ++ out1 p)
  | .routeDone h => out1 2 ++ padTo 3 (outObject h)
  | .stopped h => out1 3 ++ padTo 3 (outObject h)
  | .lost c h => out1 4 ++ padTo 3 (out1 c.code ++ outObject h)
  | .fault c h b => out1 5 ++ (out1 c.code ++ outObject h ++ out1 b.val)

/-- Event code and data of DRIVE_EVENT (R102); a stop mode is coded RAMP 1, HOME 2. -/
def DriveEvent.bytes : DriveEvent → List Byte
  | .stalled t d => out1 0 ++ (out2 t ++ out2 d)
  | .homed => out1 1 ++ unused 4
  | .homeMissed => out1 2 ++ unused 4
  | .rideEnd m => out1 3 ++ padTo 4 (out1 (m.code + 1))
  | .atEnd x => out1 4 ++ padTo 4 (out1 x.code)
  | .travelFault x => out1 5 ++ padTo 4 (out1 x.code)

/-- Event code and data of CROSSING_EVENT (R158). -/
def CrossingEvent.bytes : CrossingEvent → List Byte
  | .closed b h => out1 0 ++ (outObject b ++ outObject h)
  | .opened b => out1 1 ++ padTo 2 (outObject b)
  | .fault x r => out1 2 ++ (out1 x.code ++ (match r with | some r => out1 r.code | none => unused 1))

/-- Event code and data of CHAIN_EVENT (R81). -/
def ChainEvent.bytes : ChainEvent → List Byte
  | .fault c m p => out1 0 ++ (out1 c.code ++ out1 m ++ out1 p)
  | .restored n => out1 1 ++ padTo 3 (out1 n)

/-- The fields of a notice after the model time (the notice table of chapter 11). -/
def Notice.bytes : Notice → List Byte
  | .ready rate svc => out1 rate.val ++ out1 svc.code
  | .noticesLost n => out1 n
  | .clock e => e.bytes
  | .say code source => out1 0 ++ padTo 4 ([code] ++ source.bytes)
  | .actionFailed source kind result => out1 1 ++ (source.bytes ++ [kind] ++ out1 result.code)
  | .train t e => out1 t.val ++ e.bytes
  | .intrusion b => out1 0 ++ out1 b.val
  | .turnout t p => out1 t.val ++ out1 (positionCode p)
  | .drive d e => out1 d.val ++ e.bytes
  | .crossing c e => out1 c.val ++ e.bytes
  | .chain e => e.bytes
  | .input i level disposition => out1 i.val ++ outFlag level ++ out1 disposition.code
  | .service svc cause previous => out1 svc.code ++ out1 cause.code ++ out1 previous.code

/-- The frame of a notice: its kind, tag 0, the model time in seconds and its fields (R175, chapter 11). -/
def encodeNotice (n : Stamped) : Frame :=
  { kind := n.notice.kind, tag := 0, payload := out3 n.time ++ n.notice.bytes }

/-! ## Replies -/

/-- The reply kind of a request kind (R174). -/
def replyKind (kind : Byte) : Byte :=
  if 1 ≤ kind.toNat ∧ kind.toNat ≤ 0x7F then kind + 0x80#8 else 0x80#8

/-- The reply to a frame: its tag, and the result followed by the reply data, which only OK and ADJUSTED carry (R174). -/
def encodeReply (kind tag : Byte) (result : Result) (data : List Byte) : Frame :=
  { kind := replyKind kind, tag := tag,
    payload := out1 result.code ++ (if result = .ok ∨ result = .adjusted then data else []) }

/-! ## The check byte and the bytes of a frame -/

/-- One shift of the CRC-8: left by one place, exclusive-ORed with 0x07 when the bit shifted out was 1 (R171). -/
def crcShift (v : Byte) : Byte := if v.getLsbD 7 then (v <<< 1) ^^^ 0x07#8 else v <<< 1

/-- One byte taken into the CRC-8 (R171). -/
def crcByte (v b : Byte) : Byte :=
  crcShift (crcShift (crcShift (crcShift (crcShift (crcShift (crcShift (crcShift (v ^^^ b))))))))

/-- The CRC-8 of the bytes from the length field through the last payload byte, with initial value 0 (R171). -/
def crc8 (bytes : List Byte) : Byte := bytes.foldl crcByte 0

/-- The length field of a frame: kind, tag and payload (chapter 11). -/
def Frame.length (f : Frame) : Nat := f.payload.length + 2

/-- The bytes of a frame from the length field to the last payload byte. -/
def Frame.body (f : Frame) : List Byte := out1 f.length ++ [f.kind, f.tag] ++ f.payload

/-- The characters of a frame on the line: start byte, length, kind, tag, payload and check (chapter 11). -/
def Frame.characters (f : Frame) : List Byte := [0xA5#8] ++ f.body ++ [crc8 f.body]

end Sys2Proof.Machine
end

