-- ==== Sys2Proof/Machine/Ops.lean ====
section
/-! DEFINITION. The operations that every unit shares: updating one record of a table, sending a notice (R176), the
transmitter's choice (R175), receiving, taking and answering a request (R173, R174, R182), and offering a stored action to the
action queue (R33). -/

namespace Sys2Proof.Machine

/-! ## Tables -/

/-- A table with one record replaced. -/
def put {α : Type} {n : Nat} (v : Vector α n) (i : Fin n) (x : α) : Vector α n := v.set i.val x i.isLt

/-- A table with every record worked on its own, by its number. -/
def mapTable {α : Type} {n : Nat} (f : Fin n → α → α) (v : Vector α n) : Vector α n := Vector.ofFn fun i => f i v[i]

/-- The records of a list worked in ascending number, a value being passed on from each to the next. -/
def accumList {α σ : Type} (f : Nat → α → σ → α × σ) : Nat → List α → σ → List α × σ
  | _, [], c => ([], c)
  | n, a :: as, c =>
    let r := f n a c
    let rest := accumList f (n + 1) as r.2
    (r.1 :: rest.1, rest.2)

theorem accumList_length {α σ : Type} (f : Nat → α → σ → α × σ) (n : Nat) (as : List α) (c : σ) :
    (accumList f n as c).1.length = as.length := by
  induction as generalizing n c with
  | nil => rfl
  | cons a as ih => simp [accumList, ih]

/-- A table worked in ascending number, a value being passed on from each record to the next. -/
def accumTable {α σ : Type} {n : Nat} (f : Nat → α → σ → α × σ) (v : Vector α n) (c : σ) : Vector α n × σ :=
  (⟨⟨(accumList f 0 v.toList c).1⟩, by simp [accumList_length]⟩, (accumList f 0 v.toList c).2)

def State.setDrive (s : State) (d : Fin 4) (x : Drive) : State := { s with drives := put s.drives d x }
def State.setBlock (s : State) (b : Fin 16) (x : Block) : State := { s with blocks := put s.blocks b x }
def State.setTurnout (s : State) (t : Fin 8) (x : Turnout) : State := { s with turnouts := put s.turnouts t x }
def State.setTrain (s : State) (t : Fin 8) (x : Train) : State := { s with trains := put s.trains t x }
def State.setCrossing (s : State) (c : Fin 2) (x : Crossing) : State := { s with crossings := put s.crossings c x }
def State.setInput (s : State) (i : Fin 16) (x : Input) : State := { s with inputs := put s.inputs i x }

/-- The service state is NORMAL. -/
def State.isNormal (s : State) : Bool := s.service.state == .normal

/-! ## The transmitter -/

/-- A byte time in 1/36 us: ten bits at 19,200, 57,600, 115,200 or 250,000 baud (R170). -/
def byteTime (rate : Fin 4) : Nat :=
  match rate with | 0 => 18750 | 1 => 6250 | 2 => 3125 | 3 => 1440

/-- The time a frame takes on the line: length field L takes L + 3 characters (R170). -/
def frameTime (rate : Fin 4) (f : Frame) : Nat := (f.length + 3) * byteTime rate

/-- The transmitter's choice when it is idle: the pending reply whose frame was taken first, else the notice at the head of the
queue, which leaves the queue (R175). -/
def Link.transmit (l : Link) : Link :=
  match l.transmitter, l.replies, l.notices with
  | .idle, r :: _, _ => { l with transmitter := .reply (frameTime l.rate r) }
  | .idle, [], n :: rest => { l with transmitter := .notice n (frameTime l.rate (encodeNotice n)), notices := rest }
  | _, _, _ => l

/-! ## Notices -/

/-- A notice joins the queue at the tail, and an idle transmitter chooses (R175, R176). -/
def Link.join (l : Link) (n : Stamped) : Link := { l with notices := l.notices ++ [n] }.transmit

/-- A notice is offered to the queue (R176): masked, discarded and counted as lost, or queued, with a NOTICES_LOST before it
where notices were lost. -/
def Link.offer (l : Link) (time : Nat) (n : Notice) : Link :=
  if !n.enabled l.mask then l
  else if 32 ≤ l.notices.length then { l with lost := min 255 (l.lost + 1) }
  else if l.lost = 0 then l.join ⟨time, n⟩
  else if l.notices.length + 2 ≤ 32 then ({ l.join ⟨time, .noticesLost l.lost⟩ with lost := 0 }).join ⟨time, n⟩
  else { l.join ⟨time, .noticesLost l.lost⟩ with lost := 1 }

/-- A unit sends a notice: it is stamped with the model time in whole seconds and offered to the queue (R176). -/
def State.send (s : State) (n : Notice) : State := { s with link := s.link.offer (s.clock.time / 10) n }

/-! ## Requests and replies -/

/-- What performing a request comes to: the state after it and its result with the reply data; no result where the request
completes in a later step (a CHAIN_CONFIG that waits for a byte boundary, R78). -/
structure Performed where
  state : State
  reply : Option (Result × List Byte)

/-- A request refused: no state changes (R174, R182). -/
def refuse (r : Result) (s : State) : Performed := ⟨s, some (r, [])⟩

/-- A request performed, ADJUSTED where a value was clamped (R182, step 4). -/
def performed (adjusted : Bool) (s : State) : Performed := ⟨s, some (if adjusted then .adjusted else .ok, [])⟩

/-- A query answered OK with its data. -/
def report (data : List Byte) (s : State) : Performed := ⟨s, some (.ok, data)⟩

/-- A complete frame reaches the frame slots: a free slot takes it, else it is counted FULL and discarded (R173). -/
def Link.receive (l : Link) (f : Frame) : Link :=
  if l.slots.length < 2 then { l with slots := l.slots ++ [f] }
  else { l with rejections := { l.rejections with full := min 65535 (l.rejections.full + 1) } }

/-- The dispatcher may take this frame now: it is idle, the action queue has nothing to be served first, a reply slot is free,
and no older frame waits in a slot (R34, R173, R174). -/
def State.canTake (s : State) (f : Frame) : Bool :=
  s.dispatcher.busy.isNone && !(s.isNormal && !s.dispatcher.actions.isEmpty) && decide (s.link.replies.length < 2) &&
    (s.link.slots.isEmpty || s.link.slots.head? == some f)

/-- The reply is written into the reserved slot, which becomes pending, and an idle transmitter chooses (R174, R175). -/
def Link.answer (l : Link) (f : Frame) : Link := { l with replies := l.replies ++ [f] }.transmit

/-- The reply to a frame with this kind and tag becomes pending. -/
def State.answer (s : State) (kind tag : Byte) (result : Result) (data : List Byte) : State :=
  { s with link := s.link.answer (encodeReply kind tag result data) }

/-- The state in which the dispatcher performs a taken frame: the transmitter has begun what waited for it, and the frame has
left its slot (R174, R175). -/
def State.taken (s : State) : State :=
  { s with link := { s.link.transmit with slots := s.link.transmit.slots.tail } }

/-- A host request (log 5, DESIGN CHOICE): the dispatcher takes the frame, performs it and writes the reply; where it cannot take the frame
now, the frame waits in a slot, or is discarded as FULL (R34, R173, R174). -/
def hostRequest (kind tag : Byte) (payload : List Byte) (perform : State → Performed) (s : State) :
    Host.Outcome State Fault Refusal :=
  if 62 < payload.length then .refused .illFormed
  else if s.canTake ⟨kind, tag, payload⟩ then
    let p := perform s.taken
    match p.reply with
    | some (result, data) => .next (p.state.answer kind tag result data)
    | none => .next p.state
  else .next { s with link := s.link.receive ⟨kind, tag, payload⟩ }

/-! ## The action queue -/

/-- A stored action is offered to the action queue: it joins at the tail, or a full queue discards it with ACTION_FAILED
TABLE_FULL (R33). The flag says whether it joined. -/
def State.offerAction (s : State) (e : ActionEntry) : State × Bool :=
  if s.dispatcher.actions.length < 16 then
    ({ s with dispatcher := { s.dispatcher with actions := s.dispatcher.actions ++ [e] } }, true)
  else (s.send (.actionFailed e.source e.action.kind .tableFull), false)

end Sys2Proof.Machine
end

