-- ==== Sys2Proof/Machine/Track.lean ====
section
/-! DEFINITION. What follows from the track records (aspect R108, duty R109, target R125, throw state R112), the step from SETTING
to RESERVED (R136), turnout locks (R113) and the discharge unit's taking of a throw (R114, R115). -/

namespace Sys2Proof.Machine

/-! ## Views -/

/-- The block is its holder's head block (R108). -/
def State.isHeadOfHolder (s : State) (b : Fin 16) : Bool :=
  match s.blocks[b].holder with
  | some t => s.trains[t].head == some b
  | none => false

/-- A block's aspect (R108). -/
def State.aspect (s : State) (b : Fin 16) : Aspect :=
  if s.blocks[b].reservation = .reserved ∧ s.isHeadOfHolder b = false then .clear else .stop

/-- The driving states (R125). -/
def TrainState.driving (x : TrainState) : Bool := x == .running || x == .approach || x == .waiting

/-- A train's target (R125). The case that R125 does not state, APPROACH with approach phase none and no stop pending, is a free
value, drawn afresh whenever `freeCount` moves: at each ramp interval in NORMAL and at each chain byte of an idle step (log 11, DESIGN
CHOICE). -/
def State.target (s : State) (t : Fin 8) : Nat :=
  let x := s.trains[t]
  match x.state with
  | .running => if x.stopPending then 0 else x.speed
  | .approach =>
    if x.stopPending then 0
    else
      match x.phase with
      | .marker | .timing => min x.speed (match x.head with | some h => s.blocks[h].approachSpeed | none => x.speed)
      | .braking => 0
      | .inactive => Config.phaselessTarget (8 * s.freeCount + t.val) % 128
  | _ => 0

/-- The duty that a kick and a step give (R109). -/
def dutyOf (kick step : Nat) : Nat := kick + ((1000 - kick) * step) / 127

/-- A block's duty (R109). -/
def State.blockDuty (s : State) (b : Fin 16) : Nat :=
  match s.blocks[b].holder with
  | none => 0
  | some t =>
    let x := s.trains[t]
    if s.blocks[b].reservation = .reserved ∧ x.state.driving ∧ x.step ≠ 0 ∧ s.isNormal then dutyOf x.kick x.step else 0

/-- A turnout's throw state code (R112, section 11.5): FIRING 2, QUEUED 1, IDLE 0. -/
def Turnout.throwCode (x : Turnout) : Nat := if x.firing.isSome then 2 else if x.queued.isSome then 1 else 0

/-- A turnout's settled position (R112). -/
def Turnout.settled (x : Turnout) : Option Points := (x.queued.or x.firing).or x.position

/-- A turnout is in place: at the position with its throw state IDLE (R113). -/
def State.inPlace (s : State) (n : Need) : Bool :=
  let x := s.turnouts[n.turnout]
  x.position == some n.position && x.queued.isNone && x.firing.isNone

/-- A turnout is available for a position (R113). -/
def State.available (s : State) (n : Need) : Bool :=
  let x := s.turnouts[n.turnout]
  if x.locks = 0 then x.firing.isNone || x.firing == some n.position
  else x.lockedAt == some n.position && decide (x.locks < 8)

/-- The requirements of a block's granting path; none for a block without one (R103). -/
def Block.needs (k : Block) : List Need := match k.grant with | some p => p.needs | none => []

/-- The crossing that protects a block (R149). -/
def State.crossingOf (s : State) (b : Fin 16) : Option (Fin 2) :=
  (List.finRange 2).find? fun c => s.crossings[c].block == some b

/-- The crossing that protects a block, if any, is CLOSED (R136). -/
def State.crossingClosed (s : State) (b : Fin 16) : Bool :=
  match s.crossingOf b with
  | some c => s.crossings[c].state == some .closed
  | none => true

/-! ## From SETTING to RESERVED -/

/-- The approach timer of a train stops and its approach phase becomes none (R133, R136, R143, R144). That the timer keeps no remaining
time then is the model's (log 33, DEDUCED). -/
def Train.quitApproach (x : Train) : Train := { x with phase := .inactive, approachMs := 0 }

/-- The holder of a next block that has become RESERVED enters RUNNING from APPROACH or WAITING (R136, R155). -/
def State.startHolder (s : State) (b : Fin 16) : State :=
  match s.blocks[b].holder with
  | none => s
  | some t =>
    let x := s.trains[t]
    if x.next = some b ∧ (x.state = .approach ∨ x.state = .waiting) then
      s.setTrain t { x.quitApproach with state := .running }
    else s

/-- The test of R136: a SETTING block whose turnouts are in place and whose crossing is CLOSED becomes RESERVED. -/
def State.tryReserve (s : State) (b : Fin 16) : State :=
  let k := s.blocks[b]
  if k.reservation = .setting ∧ k.needs.all s.inPlace ∧ s.crossingClosed b then
    (s.setBlock b { k with reservation := .reserved }).startHolder b
  else s

/-- A turnout has returned to IDLE: the SETTING blocks whose granting path requires it are tested (R113, R136). -/
def State.testTurnout (s : State) (t : Fin 8) : State :=
  (List.finRange 16).foldl
    (fun s b => if s.blocks[b].needs.any (fun n => n.turnout == t) then s.tryReserve b else s) s

/-! ## The throw queue and the discharge unit -/

/-- The CDU takes entries from the head of the throw queue, dropping those whose turnout already stands at the target, until it
fires a coil or the queue is empty (R115). -/
def State.takeThrows : List (Fin 8) → State → State
  | [], s => { s with throwQueue := [] }
  | t :: rest, s =>
    let x := s.turnouts[t]
    match x.queued with
    | none => takeThrows rest s
    | some target =>
      if x.position = some target then
        takeThrows rest ({ s.setTurnout t { x with queued := none } with throwQueue := rest }.testTurnout t)
      else
        { s.setTurnout t { x with queued := none, firing := some target } with
          throwQueue := rest
          cdu := { s.cdu with state := .firing t, leftUs := x.pulseMs * 1000 } }

/-- The CDU's test: READY in NORMAL, it takes the head of the throw queue (R115). -/
def State.cduTest (s : State) : State :=
  if s.cdu.state = .ready ∧ s.isNormal then State.takeThrows s.throwQueue s else s

/-- A turnout without a queued target is given one: an entry joins the queue, and the CDU tests it (R114, R115). -/
def State.queueThrow (s : State) (t : Fin 8) (target : Points) : State :=
  { s.setTurnout t { s.turnouts[t] with queued := some target } with throwQueue := s.throwQueue ++ [t] }.cduTest

/-- A grant locks a turnout for a position (R113). -/
def State.lock (s : State) (n : Need) : State :=
  let x := { s.turnouts[n.turnout] with locks := s.turnouts[n.turnout].locks + 1, lockedAt := some n.position }
  if x.queued.isSome then s.setTurnout n.turnout { x with queued := some n.position }
  else if x.settled ≠ some n.position then (s.setTurnout n.turnout x).queueThrow n.turnout n.position
  else s.setTurnout n.turnout x

/-- A release unlocks a turnout by one (R113). -/
def State.unlock (s : State) (n : Need) : State :=
  let x := s.turnouts[n.turnout]
  s.setTurnout n.turnout { x with locks := x.locks - 1, lockedAt := if x.locks ≤ 1 then none else x.lockedAt }

end Sys2Proof.Machine
end

