-- ==== Sys2Proof/Machine/Barriers.lean ====
section
/-! DEFINITION. The moves of TRAVERSE drives (R95, R96) and what ties a crossing to its barrier and its protected block: commands,
end and fault reports (R153), grants (R151), the warning's expiry (R152) and releases (R154). -/

namespace Sys2Proof.Machine

/-! ## Inputs that drives and trains read -/

/-- The input that holds a use other than GENERAL (R159). -/
def State.inputWith (s : State) (u : Use) : Option (Fin 16) := (List.finRange 16).find? fun i => s.inputs[i].use == u

/-- An input's active level: high for RISING and HIGH, low for FALLING and LOW (R159). -/
def Trigger.activeLevel : Trigger → Option Bool
  | .never => none | .rising => some true | .falling => some false | .change => none | .low => some false | .high => some true

/-- An input is active while its debounced level equals its active level (R159). -/
def Input.active (x : Input) : Bool := x.trigger.activeLevel == some x.level

/-- The use that marks an end of a TRAVERSE drive (R95). -/
def endUse (d : Fin 4) : End → Use | .opened => .endOpen d | .closed => .endClosed d

/-- The end input of a TRAVERSE drive is active (R95). -/
def State.endActive (s : State) (d : Fin 4) (x : End) : Bool :=
  match s.inputWith (endUse d x) with
  | some i => s.inputs[i].active
  | none => false

/-! ## Reports to a crossing -/

/-- An end reported to a crossing (R153): a closed end makes CLOSING CLOSED, with its notice and the test of the protected block;
an open end makes OPENING OPEN, with its notice; any other report is ignored. -/
def State.crossingEnd (s : State) (c : Fin 2) (x : End) : State :=
  let k := s.crossings[c]
  match k.state, x with
  | some .closing, .closed =>
    let holder := match k.block with | some b => s.blocks[b].holder | none => none
    let s := (s.setCrossing c { k with state := some .closed }).send (.crossing c (.closed k.block holder))
    match k.block with
    | some b => s.tryReserve b
    | none => s
  | some .opening, .opened => (s.setCrossing c { k with state := some .opened }).send (.crossing c (.opened k.block))
  | _, _ => s

/-- A travel fault reported to a crossing (R153). -/
def State.crossingFault (s : State) (c : Fin 2) (x : End) : State :=
  let k := s.crossings[c]
  if k.state = some .closing ∨ k.state = some .opening then
    let reservation := match k.block with | some b => some s.blocks[b].reservation | none => none
    (s.setCrossing c { k with state := some .fault }).send (.crossing c (.fault x reservation))
  else s

/-! ## Moves of a TRAVERSE drive -/

/-- The state of a drive at an end, and of a drive moving toward it (R95). -/
def End.atState : End → TraverseState | .opened => .atOpen | .closed => .atClosed
def End.movingState : End → TraverseState | .opened => .movingOpen | .closed => .movingClosed
/-- The direction toward an end (R82). -/
def End.direction : End → Direction | .opened => .high | .closed => .low

/-- The travel timer of a TRAVERSE drive stops (R95 to R97). That it keeps no remaining time then is the model's (log 33, DEDUCED). -/
def Traverse.stopTimer (t : Traverse) : Traverse := { t with travelRunning := false, travelMs := 0 }

/-- A TRAVERSE drive has reached an end: it stops there and the end is reported, by the END notice and to its crossing
(R96). -/
def State.reachEnd (s : State) (d : Fin 4) (t : Traverse) (x : End) : State :=
  let drive := s.drives[d]
  let s :=
    (s.setDrive d
      { drive with duty := 0, kind := .traverse { t.stopTimer with state := x.atState } }).send
      (.drive d (.atEnd x))
  match drive.bound with
  | some c => s.crossingEnd c x
  | none => s

/-- A move toward an end is performed (R95); while the service state is not NORMAL it starts with duty 0 (R99). -/
def State.move (s : State) (d : Fin 4) (x : End) : State :=
  let drive := s.drives[d]
  match drive.kind with
  | .traverse t =>
    if s.endActive d x then s.reachEnd d t x
    else if t.state = x.movingState then s.setDrive d { drive with direction := x.direction }
    else
      s.setDrive d
        { drive with
          direction := x.direction, duty := if s.isNormal then t.travelDuty else 0,
          kind := .traverse { t with state := x.movingState, travelRunning := true, travelMs := t.timeoutMs } }
  | _ => s

/-! ## Commands of a crossing -/

/-- The crossing enters CLOSING and commands its barrier CLOSED; without a barrier it enters CLOSED at once, with the effects of a
closed end reached (R152, R156). -/
def State.lower (s : State) (c : Fin 2) : State :=
  let s := s.setCrossing c { s.crossings[c] with state := some .closing, timerRunning := false, timerUs := 0 }
  match s.crossings[c].barrier with
  | some d => s.move d .closed
  | none => s.crossingEnd c .closed

/-- The crossing enters OPENING and commands its barrier OPEN; without a barrier it enters OPEN at once, and sends the OPEN notice
where its rule says so (R150, R154, R156, R157). -/
def State.raise (s : State) (c : Fin 2) (notice : Bool) : State :=
  let k := { s.crossings[c] with timerRunning := false, timerUs := 0 }
  match k.barrier with
  | some d => (s.setCrossing c { k with state := some .opening }).move d .opened
  | none =>
    let s := s.setCrossing c { k with state := some .opened }
    if notice then s.send (.crossing c (.opened k.block)) else s

/-- The warning timer of a crossing in WARNING expires (R152). -/
def State.warningExpires (s : State) (c : Fin 2) : State :=
  if s.crossings[c].state = some .warning then s.lower c else s

/-- The crossing unit is told of the grant of a protected block (R151). -/
def State.crossingGranted (s : State) (b : Fin 16) : State :=
  match s.crossingOf b with
  | none => s
  | some c =>
    let k := s.crossings[c]
    match k.state with
    | some .opened =>
      let s := s.setCrossing c { k with state := some .warning, timerRunning := true, timerUs := k.warningMs * 1000 }
      if k.warningMs = 0 then s.warningExpires c else s
    | some .opening => s.lower c
    | _ => s

/-- The crossing unit is told of the release of a protected block (R154). -/
def State.crossingReleased (s : State) (b : Fin 16) : State :=
  match s.crossingOf b with
  | none => s
  | some c =>
    match s.crossings[c].state with
    | some .warning => s.raise c true
    | some .closing => s.raise c true
    | some .closed => s.raise c true
    | _ => s

end Sys2Proof.Machine
end

