-- ==== Sys2Proof/Machine/Movement.lean ====
section
/-! DEFINITION. Grants, releases and grant passes (R134 to R138), and the movement of trains from block to block: advance, clears,
overrun, approach, LOST and FAULT, intrusion and stop markers (R119, R139 to R144). -/

namespace Sys2Proof.Machine

/-! ## Small operations on a train -/

/-- An emergency stop: step and accumulator 0 at once (R126). -/
def Train.halt (x : Train) : Train := { x with step := 0, ramp := 0 }

/-- The train is neither FREE, LOST nor FAULT (R127). -/
def TrainState.active (x : TrainState) : Bool := x != .free && x != .lost && x != .fault

/-- The train leaves any waiting list it stands in (R131, R133, R144). -/
def State.leaveList (s : State) (t : Fin 8) : State :=
  match s.trains[t].waitingFor with
  | none => s
  | some b =>
    (s.setBlock b { s.blocks[b] with waiting := s.blocks[b].waiting.filter (fun u => u != t) }).setTrain t
      { s.trains[t] with waitingFor := none }

/-- The path table entry for a pair of blocks (R134). -/
def State.pathFrom (s : State) (src dst : Fin 16) : Option Path :=
  s.paths.find? fun p => p.src == src && p.dst == dst

/-- The path by which a train asks for a block: from its present head block (R134). -/
def State.pathFor (s : State) (t : Fin 8) (b : Fin 16) : Option Path :=
  match s.trains[t].head with
  | some h => s.pathFrom h b
  | none => none

/-! ## Grant and release -/

/-- A block can be granted by a path: configured, FREE and CLEAR, and every turnout of the path available (R134). -/
def State.grantable (s : State) (b : Fin 16) (p : Path) : Bool :=
  s.blocks[b].configured && s.blocks[b].reservation == .free && !s.blocks[b].occupied && p.needs.all s.available

/-- A grant of a block to a train by a path (R135). -/
def State.grantBlock (s : State) (t : Fin 8) (b : Fin 16) (p : Path) : State :=
  let s := s.setBlock b { s.blocks[b] with reservation := .setting, holder := some t, grant := some p, polarity := p.polarity }
  let s := (s.setTrain t { s.trains[t] with next := some b }).leaveList t
  let s := p.needs.foldl State.lock s
  (s.crossingGranted b).tryReserve b

/-- A train asks for its next block, the first of its route: it is granted at once or joins the block's waiting list with a WAITING
notice (R134). -/
def State.askNext (s : State) (t : Fin 8) : State :=
  match s.trains[t].route with
  | [] => s
  | b :: _ =>
    let join :=
      ((s.setBlock b { s.blocks[b] with waiting := s.blocks[b].waiting ++ [t] }).setTrain t
        { s.trains[t] with waitingFor := some b }).send (.train t (.waiting b s.blocks[b].waiting.length))
    match s.pathFor t b with
    | some p => if s.blocks[b].waiting.isEmpty && s.grantable b p then s.grantBlock t b p else join
    | none => join

/-- A train's record without a block as its tail, head or next block (R137). -/
def Train.without (x : Train) (b : Fin 16) : Train :=
  { x with
    head := if x.head = some b then none else x.head
    tail := if x.tail = some b then none else x.tail
    next := if x.next = some b then none else x.next }

/-- A block released to FREE with its holder's record and its turnout locks, the crossing not yet told (R137, steps 1 to 3). -/
def State.freeBlock (s : State) (b : Fin 16) : State :=
  let k := s.blocks[b]
  let s := s.setBlock b { k with reservation := .free, holder := none, grant := none }
  let s := match k.holder with | some t => s.setTrain t (s.trains[t].without b) | none => s
  k.needs.foldl State.unlock s

/-- A release of a block, its crossing told (R137). -/
def State.release (s : State) (b : Fin 16) : State := (s.freeBlock b).crossingReleased b

/-- A release of the block that a record names, if it names one (R129, R139). -/
def State.releaseIf (s : State) (b : Option (Fin 16)) : State := match b with | some b => s.release b | none => s

/-- The head of one block's waiting list is tested and granted where possible (R138). -/
def State.passBlock (s : State) (b : Fin 16) : State :=
  match s.blocks[b].waiting with
  | [] => s
  | t :: _ =>
    match s.pathFor t b with
    | some p => if s.grantable b p then s.grantBlock t b p else s
    | none => s

/-- A grant pass (R138). -/
def State.grantPass (s : State) : State := (List.finRange 16).foldl State.passBlock s

/-! ## Approach, LOST and FAULT -/

/-- The train has a RESERVED next block (R139, R142). -/
def State.hasReservedNext (s : State) (t : Fin 8) : Bool :=
  match s.trains[t].next with
  | some b => s.blocks[b].reservation == .reserved
  | none => false

/-- The train enters APPROACH, its phase set from its head block (R142). In phase MARKER the approach timer, which is not used, holds no
remaining time (log 33, DEDUCED). -/
def State.enterApproach (s : State) (t : Fin 8) : State :=
  let x := s.trains[t]
  match x.head with
  | none => s
  | some h =>
    if (s.inputWith (.stopMarker h)).isSome then s.setTrain t { x with state := .approach, phase := .marker, approachMs := 0 }
    else if s.blocks[h].approachMs = 0 then s.setTrain t { x with state := .approach, phase := .braking, approachMs := 0 }
    else s.setTrain t { x with state := .approach, phase := .timing, approachMs := s.blocks[h].approachMs }

/-- The train enters LOST or FAULT: emergency stop, waiting list left, state, cause and notice (R144). -/
def State.enterTrouble (s : State) (t : Fin 8) (state : TrainState) (cause : TrainCause) (e : TrainEvent) : State :=
  let s :=
    (s.setTrain t { s.trains[t].halt.quitApproach with stopPending := false }).leaveList t
  (s.setTrain t { s.trains[t] with state := state, cause := cause }).send (.train t e)

/-- The train becomes LOST (R144). -/
def State.lose (s : State) (t : Fin 8) (cause : TrainCause) : State :=
  s.enterTrouble t .lost cause (.lost cause s.trains[t].head)

/-- The train enters FAULT, the occupancy being seen in a block (R144). -/
def State.faultTrain (s : State) (t : Fin 8) (cause : TrainCause) (seen : Fin 16) : State :=
  s.enterTrouble t .fault cause (.fault cause s.trains[t].head seen)

/-! ## Changes of occupancy -/

/-- The train advances into its next block (R139). -/
def State.advance (s : State) (t : Fin 8) (b : Fin 16) : State :=
  let s := s.releaseIf s.trains[t].tail
  let old := s.trains[t].head
  let s :=
    match old with
    | some h =>
      if s.blocks[h].occupied then s.setTrain t { s.trains[t] with tail := some h }
      else s.release h
    | none => s
  let s :=
    s.setTrain t { s.trains[t] with head := some b, next := none, route := s.trains[t].route.tail, progressMs := 0 }
  let s := s.send (.train t (.entered b s.trains[t].tail))
  let s := s.askNext t
  if s.hasReservedNext t then s else s.enterApproach t

/-- The head block of a train without a tail has cleared: in gap nothing changes, else the train is LOST (R140). -/
def State.headCleared (s : State) (t : Fin 8) : State :=
  if s.trains[t].tail.isNone && !s.hasReservedNext t then s.lose t .headClear else s

/-- A train's head block is CLEAR (R140). -/
def State.headIsClear (s : State) (t : Fin 8) : Bool :=
  match s.trains[t].head with
  | some h => !s.blocks[h].occupied
  | none => false

/-- A held block becomes CLEAR: the effect on its holder (R140). -/
def State.clearedHolder (s : State) (t : Fin 8) (b : Fin 16) : State :=
  let x := s.trains[t]
  if !(x.state.driving || x.state == .stopped) then s
  else if x.tail = some b then
    let s := s.release b
    if s.headIsClear t then s.headCleared t else s
  else if x.head = some b then s.headCleared t
  else s

/-- A block becomes CLEAR (R106, R140); a grant pass follows. -/
def State.becomesClear (s : State) (b : Fin 16) : State :=
  match s.blocks[b].holder with
  | some t => (s.clearedHolder t b).grantPass
  | none => s.grantPass

/-- A block is joined to another by a path table entry in either direction (R119). -/
def State.joined (s : State) (a b : Fin 16) : Bool :=
  s.paths.any fun p => (p.src == a && p.dst == b) || (p.src == b && p.dst == a)

/-- A train holds, as its tail, head or next block, a block joined to this one (R119). -/
def State.holdsJoined (s : State) (t : Fin 8) (b : Fin 16) : Bool :=
  [s.trains[t].tail, s.trains[t].head, s.trains[t].next].any fun k => match k with | some k => s.joined k b | none => false

/-- An intrusion into a FREE block (R119). A grant pass follows where a caught train left a waiting list (R138). -/
def State.intrusion (s : State) (b : Fin 16) : State :=
  let s := s.send (.intrusion b)
  let caught := (List.finRange 8).filter fun t => s.trains[t].state.active && s.holdsJoined t b
  let left := caught.any fun t => s.trains[t].waitingFor.isSome
  let s := caught.foldl (fun s t => s.faultTrain t .intrusion b) s
  if left then s.grantPass else s

/-- A block becomes OCCUPIED (R106): an intrusion, an overrun, an advance, or no effect. -/
def State.becomesOccupied (s : State) (b : Fin 16) : State :=
  match s.blocks[b].reservation, s.blocks[b].holder with
  | .free, _ => s.intrusion b
  | .setting, some t =>
    if s.trains[t].next = some b ∧ s.trains[t].state.active then s.faultTrain t .overrun b else s
  | .reserved, some t =>
    if s.trains[t].next = some b ∧ s.trains[t].state.active then (s.advance t b).grantPass else s
  | _, none => s

/-- The debounce of a block completes: the occupancy takes the detector's value and the change is acted on (R105, R106). -/
def State.occupancyChange (s : State) (b : Fin 16) : State :=
  let k := s.blocks[b]
  let s := s.setBlock b { k with occupied := k.detector, debounceRunning := false, debounceUs := 0 }
  if k.detector then s.becomesOccupied b else s.becomesClear b

/-! ## Stop markers -/

/-- A train that has come to a stand in APPROACH stops for its TRAIN_STOP, waits, or has done its route (R127, R143). -/
def State.standStill (s : State) (t : Fin 8) : State :=
  let x := s.trains[t].quitApproach
  if x.stopPending then
    (s.setTrain t { x with state := .stopped, stopPending := false }).send (.train t (.stopped x.head))
  else if x.route.isEmpty then (s.setTrain t { x with state := .stopped }).send (.train t (.routeDone x.head))
  else s.setTrain t { x with state := .waiting }

/-- A stop marker firing for a block (R143). -/
def State.markerFires (s : State) (b : Fin 16) : State :=
  match (List.finRange 8).find? fun t => s.trains[t].head == some b && s.trains[t].state == .approach with
  | none => s
  | some t => (s.setTrain t s.trains[t].halt).standStill t

end Sys2Proof.Machine
end

