-- ==== Sys2Proof/Machine/Blocks.lean ====
section
/-! DEFINITION. The requests and events of blocks, paths, turnouts and the discharge unit (chapter 6). -/

namespace Sys2Proof.Machine

/-! ## Blocks -/

/-- The delay that applies to a block's debounce, in microseconds (R105). -/
def Block.delayUs (k : Block) : Nat := (if k.occupied then k.offMs else k.onMs) * 1000

/-- The debounce timer after the detector or the configuration has changed: running exactly while the detector of a configured
block disagrees with the occupancy; one that runs already keeps its elapsed time (R104, R105). -/
def Block.retime (k : Block) : Block :=
  if k.configured ∧ k.detector ≠ k.occupied then
    if k.debounceRunning then k else { k with debounceRunning := true, debounceUs := 0 }
  else { k with debounceRunning := false, debounceUs := 0 }

/-- BLOCK_CONFIG performed (R104, R105, R138). -/
def performBlockConfig (p : List Byte) (s : State) : Performed :=
  match p with
  | [b, on, off, speed, time, transit] =>
    match object 16 b with
    | none => refuse .noSuchObject s
    | some b =>
      let k := s.blocks[b]
      if k.reservation ≠ .free then refuse .stateConflict s
      else
        let onMs := clamp 2 255 on.toNat
        let offUnits := clamp 1 255 off.toNat
        let speed' := clamp 0 127 speed.toNat
        let transitS := clamp 1 255 transit.toNat
        let adjusted :=
          onMs != on.toNat || offUnits != off.toNat || speed' != speed.toNat || transitS != transit.toNat
        let k' :=
          { k with
            configured := true, onMs := onMs, offMs := offUnits * 10, approachSpeed := speed', approachMs := time.toNat * 100,
            transitS := transitS }.retime
        let s := s.setBlock b k'
        let s := if k'.debounceRunning ∧ k'.delayUs ≤ k'.debounceUs then s.occupancyChange b else s
        performed adjusted (if k.configured then s else s.grantPass)
  | _ => refuse .badLength s

/-- BLOCK_QUERY performed (R122). -/
def performBlockQuery (p : List Byte) (s : State) : Performed :=
  match p with
  | [b] =>
    match object 16 b with
    | none => refuse .noSuchObject s
    | some b =>
      let k := s.blocks[b]
      report
        (outFlag k.configured ++ out1 k.onMs ++ out1 (k.offMs / 10) ++ out1 k.approachSpeed ++ out1 (k.approachMs / 100) ++
          out1 k.transitS ++ outFlag k.detector ++ outFlag k.occupied ++ out2 (k.debounceUs / 1000) ++ out1 k.reservation.code ++
          outObject k.holder ++
          (match k.grant with
            | some g =>
              out1 g.src.val ++ out1 g.dst.val ++ out1 g.needs.length ++
                padTo 4 (g.needs.flatMap fun n => out1 n.turnout.val ++ out1 n.position.code)
            | none => unused 7) ++
          out1 k.polarity.code ++ out1 (s.aspect b).code ++ out2 (s.blockDuty b) ++ out1 k.waiting.length ++
          padTo 8 (k.waiting.flatMap fun t => out1 t.val) ++ out1 s.paths.length) s
  | _ => refuse .badLength s

/-! ## Paths -/

/-- The requirement fields of PATH_ADD, a turnout and a position each (section 11.2). -/
def needFields : List Byte → List (Byte × Byte)
  | a :: b :: rest => (a, b) :: needFields rest
  | _ => []

/-- The requirements of PATH_ADD, or the result that refuses them (R110, checks 4 and 5). -/
def needsOf (fields : List (Byte × Byte)) : Except Result (List Need) :=
  if fields.any (fun f => decide (7 < f.1.toNat)) then .error .noSuchObject
  else if fields.any (fun f => (pointsOf f.2).isNone) then .error .badArgument
  else
    match fields with
    | [(a, _), (b, _)] => if a = b then .error .badArgument else .ok (fields.filterMap needOf)
    | _ => .ok (fields.filterMap needOf)
where
  needOf (f : Byte × Byte) : Option Need :=
    match object 8 f.1, pointsOf f.2 with
    | some t, some x => some ⟨t, x⟩
    | _, _ => none

/-- An entry is the granting path of a block that is SETTING or RESERVED (R110, check 6). -/
def State.pathHeld (s : State) (src dst : Fin 16) : Bool :=
  s.blocks.toList.any fun k =>
    k.reservation != .free && (match k.grant with | some g => g.src == src && g.dst == dst | none => false)

/-- PATH_ADD performed (R110); a grant pass follows (R138). -/
def performPathAdd (p : List Byte) (s : State) : Performed :=
  match p with
  | src :: dst :: pol :: n :: rest =>
    if rest.length ≠ 2 * n.toNat then refuse .badLength s
    else
      match object 16 src, object 16 dst with
      | some src, some dst =>
        if src = dst then refuse .badArgument s
        else
          match polarityOf pol with
          | none => refuse .badArgument s
          | some pol =>
            if 2 < n.toNat then refuse .badArgument s
            else
              match needsOf (needFields rest) with
              | .error r => refuse r s
              | .ok needs =>
                let entry : Path := ⟨src, dst, pol, needs⟩
                if (s.pathFrom src dst).isSome then
                  if s.pathHeld src dst then refuse .stateConflict s
                  else
                    performed false
                      { s with
                        paths := s.paths.map fun (q : Path) => if q.src = src ∧ q.dst = dst then entry else q }.grantPass
                else if 48 ≤ s.paths.length then refuse .tableFull s
                else performed false { s with paths := s.paths ++ [entry] }.grantPass
      | _, _ => refuse .noSuchObject s
  | _ => refuse .badLength s

/-- PATH_CLEAR performed (R111). -/
def performPathClear (p : List Byte) (s : State) : Performed :=
  match p with
  | [] =>
    if s.blocks.toList.any (fun k => k.reservation != .free) then refuse .stateConflict s
    else performed false { s with paths := [] }
  | _ => refuse .badLength s

/-! ## Turnouts and the discharge unit -/

/-- TURNOUT_CONFIG performed (R112). -/
def performTurnoutConfig (p : List Byte) (s : State) : Performed :=
  match p with
  | [t, pulse] =>
    match object 8 t with
    | none => refuse .noSuchObject s
    | some t =>
      let ms := clamp 20 250 pulse.toNat
      performed (ms != pulse.toNat) (s.setTurnout t { s.turnouts[t] with pulseMs := ms })
  | _ => refuse .badLength s

/-- TURNOUT_SET performed (R118). -/
def performTurnoutSet (p : List Byte) (s : State) : Performed :=
  match p with
  | [t, position] =>
    match object 8 t, pointsOf position with
    | none, _ => refuse .noSuchObject s
    | some _, none => refuse .badArgument s
    | some t, some position =>
      let x := s.turnouts[t]
      if x.locks ≠ 0 then
        if x.lockedAt = some position then performed false s else refuse .locked s
      else if x.queued.isSome then performed false (s.setTurnout t { x with queued := some position })
      else if x.firing = some position then performed false s
      else if x.firing.isNone ∧ x.position = some position then performed false s
      else performed false (s.queueThrow t position)
  | _ => refuse .badLength s

/-- TURNOUT_QUERY performed (R122). In READY the remaining time of the discharge unit is 0 and reported so (log 33, DEDUCED). -/
def performTurnoutQuery (p : List Byte) (s : State) : Performed :=
  match p with
  | [t] =>
    match object 8 t with
    | none => refuse .noSuchObject s
    | some t =>
      let x := s.turnouts[t]
      report
        (out1 (positionCode x.position) ++ out1 x.throwCode ++ outTarget x.queued ++ outTarget x.firing ++ out1 x.locks ++
          outTarget x.lockedAt ++ out1 x.pulseMs ++
          (if t ∈ s.throwQueue then out1 (s.throwQueue.idxOf t) else unused 1) ++ out1 s.cdu.state.code ++
          out2 (s.cdu.leftUs / 1000) ++ out2 s.cdu.rechargeMs ++ out1 s.throwQueue.length) s
  | _ => refuse .badLength s

/-- CDU_CONFIG performed (R117). -/
def performCduConfig (p : List Byte) (s : State) : Performed :=
  match p with
  | [r1, r0] =>
    let ms := clamp 100 2000 (be2 r1 r0)
    performed (ms != be2 r1 r0) { s with cdu := { s.cdu with rechargeMs := ms } }
  | _ => refuse .badLength s

/-- The end of a coil pulse of a turnout (R116). -/
def State.pulseEnds (s : State) (t : Fin 8) : State :=
  let x := s.turnouts[t]
  let s := s.setTurnout t { x with position := x.firing, firing := none }
  let s := s.send (.turnout t x.firing)
  let s := { s with cdu := { s.cdu with state := .recharging, leftUs := s.cdu.rechargeMs * 1000 } }
  (if x.queued.isNone then s.testTurnout t else s).grantPass

/-! ## Meanings -/

/-- BLOCK_CONFIG (R104). -/
def execBlockConfig (tag : Byte) (payload : List Byte) (s : State) : Host.Outcome State Fault Refusal :=
  hostRequest 0x40#8 tag payload (performBlockConfig payload) s

/-- PATH_ADD (R110). -/
def execPathAdd (tag : Byte) (payload : List Byte) (s : State) : Host.Outcome State Fault Refusal :=
  hostRequest 0x41#8 tag payload (performPathAdd payload) s

/-- PATH_CLEAR (R111). -/
def execPathClear (tag : Byte) (payload : List Byte) (s : State) : Host.Outcome State Fault Refusal :=
  hostRequest 0x42#8 tag payload (performPathClear payload) s

/-- TURNOUT_CONFIG (R112). -/
def execTurnoutConfig (tag : Byte) (payload : List Byte) (s : State) : Host.Outcome State Fault Refusal :=
  hostRequest 0x43#8 tag payload (performTurnoutConfig payload) s

/-- TURNOUT_SET (R118). -/
def execTurnoutSet (tag : Byte) (payload : List Byte) (s : State) : Host.Outcome State Fault Refusal :=
  hostRequest 0x44#8 tag payload (performTurnoutSet payload) s

/-- BLOCK_QUERY (R122). -/
def execBlockQuery (tag : Byte) (payload : List Byte) (s : State) : Host.Outcome State Fault Refusal :=
  hostRequest 0x45#8 tag payload (performBlockQuery payload) s

/-- TURNOUT_QUERY (R122). -/
def execTurnoutQuery (tag : Byte) (payload : List Byte) (s : State) : Host.Outcome State Fault Refusal :=
  hostRequest 0x46#8 tag payload (performTurnoutQuery payload) s

/-- CDU_CONFIG (R117). -/
def execCduConfig (tag : Byte) (payload : List Byte) (s : State) : Host.Outcome State Fault Refusal :=
  hostRequest 0x47#8 tag payload (performCduConfig payload) s

/-- BLKSENSE_CHANGE (R105): a change of a detector starts or stops the debounce timer. -/
def execBlksenseChange (b : Fin 16) (sensed : Bool) (s : State) : Host.Outcome State Fault Refusal :=
  if s.blocks[b].detector = sensed then .next s
  else .next (s.setBlock b { s.blocks[b] with detector := sensed }.retime)

/-- OCCUPANCY_CHANGE (R106): the debounce timer of a block, where it runs, reaches its delay. -/
def execOccupancyChange (b : Fin 16) (s : State) : Host.Outcome State Fault Refusal :=
  if s.blocks[b].debounceRunning then .next (s.occupancyChange b) else .next s

/-- TURNOUT_PULSE_END (R116): the pulse in progress ends. -/
def execTurnoutPulseEnd (s : State) : Host.Outcome State Fault Refusal :=
  match s.cdu.state with
  | .firing t => .next (s.pulseEnds t)
  | _ => .next s

/-- CDU_RECHARGE_END (R116): the recharge in progress ends, and the CDU tests the throw queue (R115). -/
def execCduRechargeEnd (s : State) : Host.Outcome State Fault Refusal :=
  if s.cdu.state = .recharging then .next { s with cdu := { s.cdu with state := .ready, leftUs := 0 } }.cduTest else .next s

end Sys2Proof.Machine
end

