-- ==== Sys2Proof/Machine/Chain.lean ====
section
/-! DEFINITION. The lamp chain (chapter 4): transfers (R67 to R72), the loop-return check (R73, R74), fault and retry (R71, R75),
configuration (R76 to R78) and its requests. -/

namespace Sys2Proof.Machine

/-! ## Times -/

/-- One period of the chain clock in microseconds (R69). -/
def ChainClock.bitUs : ChainClock → Nat | .khz125 => 8 | .khz250 => 4 | .khz500 => 2 | .khz1000 => 1

/-- A transfer is in progress (R66). -/
def Chain.inTransfer (c : Chain) : Bool := c.state == .sending || (c.state == .fault && c.retrying)

/-- The byte being sent: the snapshot byte for channel 32 + byte pointer (R69). -/
def Chain.currentByte (c : Chain) : Byte := (c.snapshot[c.pointer]?).getD 0

/-! ## Starting a transfer and its bytes -/

/-- A byte begins to shift: 8 bit periods (R69). -/
def Chain.sendByte (c : Chain) : Chain := { c with wire := .shifting (8 * c.settings.clock.bitUs) }

/-- The busy test before a byte: with the handshake on and CHAIN_BUSY high the chain waits, else the byte is sent at once
(R70). -/
def Chain.busyTest (c : Chain) : Chain :=
  if c.settings.handshake ∧ c.busyPin then { c with wire := .busyWait (c.settings.timeoutMs * 1000) } else c.sendByte

/-- CHAIN_BUSY is seen at a level (log 13, DESIGN CHOICE): a byte that waits for the pin to fall is sent as soon as it is low, and the
pin at any other moment only stands at its level (R70). So a busy wait goes on exactly while the pin is high throughout (R71). -/
def Chain.seeBusy (c : Chain) (busy : Bool) : Chain :=
  match c.wire, busy with
  | .busyWait _, false => { c with busyPin := false }.sendByte
  | _, _ => { c with busyPin := busy }

/-- A transfer starts: the snapshot, the byte pointer and the transfer mismatch count, then the first byte (R68). -/
def Chain.startTransfer (c : Chain) : Chain :=
  { c with
    snapshot := c.buffer.toList.take (8 * c.settings.modules)
    pointer := 8 * c.settings.modules - 1
    mismatch := 0 }.busyTest

/-- The end of a lighting frame reaches the chain (R67). -/
def Chain.frameEnd (c : Chain) : Chain :=
  match c.state with
  | .off => c
  | .idle => { c with state := .sending }.startTransfer
  | .sending => { c with late := min 65535 (c.late + 1) }
  | .fault => c

/-- The returned byte of the byte just sent is compared with the previous snapshot's byte at the same place, where the loop check
is on and the previous snapshot is valid (R73). -/
def Chain.compare (c : Chain) (returned : Byte) : Chain :=
  if c.settings.loopCheck ∧ c.previousValid ∧ c.previous[c.pointer]? ≠ some returned then
    { c with mismatch := c.mismatch + 1, cumulative := min 65535 (c.cumulative + 1) }
  else c

/-- After a whole byte: the next byte waits the byte interval and the busy test, or the latch pulse follows (R69, R70, R72). -/
def Chain.afterByte (c : Chain) : Chain :=
  if c.pointer = 0 then { c with wire := .latching c.settings.clock.bitUs }
  else
    let c := { c with pointer := c.pointer - 1 }
    if c.settings.interval = 0 then c.busyTest else { c with wire := .interval (8 * c.settings.interval) }

/-! ## Faults and retries -/

/-- The chain enters FAULT from SENDING, the retry timer starts at 1,000 ms (R71, R74). -/
def Chain.enterFault (c : Chain) (cause : ChainCause) : Chain :=
  { c with state := .fault, cause := cause, retrying := false, failed := 0, retryRunning := true, retryUs := 1000000 }

/-- A retry has failed: FAULT stays with the new cause and the timer restarts (R75). -/
def Chain.retryFailed (c : Chain) (cause : ChainCause) : Chain :=
  { c with
    cause := cause, failed := min 255 (c.failed + 1), retrying := false, retryRunning := true, retryUs := 1000000 }

/-- A retry has succeeded: IDLE, the cause cleared, the timer stopped (R75). That the retry phase is WAITING again outside FAULT is the
model's (log 31, DESIGN CHOICE). -/
def Chain.restored (c : Chain) : Chain :=
  { c with state := .idle, cause := .clear, retrying := false, retryRunning := false, retryUs := 0 }

/-- A busy wait that reached its timeout: the transfer is aborted without a latch, the previous snapshot is invalid, and a
transfer from SENDING enters FAULT with a notice while a retry has failed (R71, R75). -/
def State.stuckBusy (s : State) : State :=
  let c := { s.chain with previousValid := false, pointer := 0, wire := .quiet }
  if s.chain.state = .sending then
    { s with chain := c.enterFault .stuckBusy }.send (.chain (.fault .stuckBusy s.chain.mismatch s.chain.pointer))
  else { s with chain := c.retryFailed .stuckBusy }

/-- The loop evaluation finds an error: the check on, the previous snapshot valid and the mismatches at or above the threshold
(R74). -/
def Chain.loopFails (c : Chain) : Bool :=
  c.settings.loopCheck && c.previousValid && decide (c.settings.threshold ≤ c.mismatch)

/-- Step 1 of R72: the evaluation at the end of a transfer from SENDING (R74) or of a retry (R75). -/
def State.evaluate (s : State) : State :=
  if s.chain.state = .sending then
    if s.chain.loopFails then
      { s with chain := s.chain.enterFault .loopError }.send (.chain (.fault .loopError s.chain.mismatch 0))
    else { s with chain := { s.chain with state := .idle } }
  else if s.chain.loopFails then { s with chain := s.chain.retryFailed .loopError }
  else { s with chain := s.chain.restored }.send (.chain (.restored s.chain.failed))

/-- The latch completes a transfer: the evaluation, then the snapshot becomes the valid previous snapshot (R72). -/
def State.latch (s : State) : State :=
  let s := s.evaluate
  { s with chain := { s.chain with previous := s.chain.snapshot, previousValid := true, pointer := 0, wire := .quiet } }

/-! ## Configuration -/

/-- The settings are applied and a fault is cleared without a notice; a transfer in progress ends without a latch
(R77, R78). That the retry phase is WAITING again is the model's (log 31, DESIGN CHOICE). -/
def Chain.configure (c : Chain) (settings : ChainSettings) : Chain :=
  { c with
    settings := settings, previousValid := false, pointer := 0, wire := .quiet, retrying := false, retryRunning := false,
    retryUs := 0, cause := .clear, failed := if c.state = .fault then 0 else c.failed,
    state := if settings.modules = 0 then .off else .idle }

/-- A byte is being shifted, so that an abort waits for its end (R78). -/
def Chain.shiftingByte (c : Chain) : Bool := match c.wire with | .shifting _ => true | _ => false

/-- A whole byte has been sent (R69): the comparison, then the waiting CHAIN_CONFIG's abort and reply (R78), or the next byte. -/
def State.byteDone (s : State) (returned : Byte) : State :=
  let s := { s with chain := s.chain.compare returned }
  match s.dispatcher.busy with
  | some w =>
    { s with
      chain := s.chain.configure w.settings
      dispatcher := { s.dispatcher with busy := none } }.answer 0x24#8 w.tag (if w.adjusted then .adjusted else .ok) []
  | none => { s with chain := s.chain.afterByte }

/-- CHAIN_CONFIG performed (R76 to R78): at once, or at the end of the byte being shifted. -/
def performChainConfig (tag : Byte) (p : List Byte) (s : State) : Performed :=
  match p with
  | [m, clk, interval, handshake, timeout, loop, threshold] =>
    if 12 < m.toNat then refuse .badArgument s
    else
      match chainClockOf clk, flag handshake, flag loop with
      | some clk, some handshake, some loop =>
        let x : ChainSettings :=
          { modules := m.toNat, clock := clk, interval := clamp 0 31 interval.toNat, handshake := handshake,
            timeoutMs := clamp 1 255 timeout.toNat, loopCheck := loop, threshold := clamp 1 255 threshold.toNat }
        let adjusted := x.interval != interval.toNat || x.timeoutMs != timeout.toNat || x.threshold != threshold.toNat
        if s.chain.shiftingByte then
          ⟨{ s with dispatcher := { s.dispatcher with busy := some ⟨tag, x, adjusted⟩ } }, none⟩
        else performed adjusted { s with chain := s.chain.configure x }
      | _, _, _ => refuse .badArgument s
  | _ => refuse .badLength s

/-- The seven settings as CHAIN_CONFIG carries them. -/
def ChainSettings.bytes (x : ChainSettings) : List Byte :=
  out1 x.modules ++ out1 x.clock.code ++ out1 x.interval ++ outFlag x.handshake ++ out1 x.timeoutMs ++ outFlag x.loopCheck ++
    out1 x.threshold

/-- CHAIN_QUERY performed (R80): the clear flag clears two counts after they are read. Outside FAULT the retry phase is reported as
WAITING (log 31, DESIGN CHOICE). -/
def performChainQuery (p : List Byte) (s : State) : Performed :=
  match p with
  | [b] =>
    match flag b with
    | none => refuse .badArgument s
    | some clear =>
      let c := s.chain
      report
        (c.settings.bytes ++ out1 c.state.code ++ out1 c.cause.code ++ outFlag c.retrying ++ out2 (c.retryUs / 1000) ++
          out1 c.pointer ++ (if c.inTransfer then outFlag c.retrying else unused 1) ++ outFlag c.previousValid ++
          out1 c.mismatch ++ out2 c.cumulative ++ out2 c.late ++ out1 c.failed)
        (if clear then { s with chain := { c with cumulative := 0, late := 0 } } else s)
  | _ => refuse .badLength s

/-! ## Meanings -/

/-- CHAIN_CONFIG (R76). -/
def execChainConfig (tag : Byte) (payload : List Byte) (s : State) : Host.Outcome State Fault Refusal :=
  hostRequest 0x24#8 tag payload (performChainConfig tag payload) s

/-- CHAIN_QUERY (R80). -/
def execChainQuery (tag : Byte) (payload : List Byte) (s : State) : Host.Outcome State Fault Refusal :=
  hostRequest 0x25#8 tag payload (performChainQuery payload) s

/-- The level of CHAIN_BUSY that a step finds (log 13, DESIGN CHOICE). -/
def State.withBusy (s : State) (busy : Bool) : State := { s with chain := s.chain.seeBusy busy }

/-- CHAIN_BYTE_DONE (R69): the byte being shifted ends with this returned byte. -/
def execChainByteDone (returned : Byte) (busy : Bool) (s : State) : Host.Outcome State Fault Refusal :=
  if s.chain.shiftingByte then .next ((s.withBusy busy).byteDone returned) else .next (s.withBusy busy)

/-- BYTE_INTERVAL_END (R70): the busy test follows the interval. -/
def execByteIntervalEnd (busy : Bool) (s : State) : Host.Outcome State Fault Refusal :=
  match s.chain.wire with
  | .interval _ => .next { s with chain := (s.withBusy busy).chain.busyTest }
  | _ => .next (s.withBusy busy)

/-- CHAIN_BUSY_LOW (R70): CHAIN_BUSY falls, and the byte that waits for it is sent. -/
def execChainBusyLow (s : State) : Host.Outcome State Fault Refusal := .next (s.withBusy false)

/-- BUSY_TIMEOUT (R71): a busy wait reaches its timeout. The chain has left the wait where CHAIN_BUSY was seen low. -/
def execBusyTimeout (s : State) : Host.Outcome State Fault Refusal :=
  match s.chain.wire with
  | .busyWait _ => .next s.stuckBusy
  | _ => .next s

/-- CHAIN_LATCH (R72): the latch pulse of a transfer whose last byte has been sent. -/
def execChainLatch (s : State) : Host.Outcome State Fault Refusal :=
  match s.chain.wire with
  | .latching _ => .next s.latch
  | _ => .next s

/-- CHAIN_RETRY_EXPIRY (R75): in FAULT with a running retry timer a retry transfer starts. -/
def execChainRetryExpiry (busy : Bool) (s : State) : Host.Outcome State Fault Refusal :=
  if s.chain.state = .fault ∧ s.chain.retryRunning then
    .next
      { s with
        chain := { (s.withBusy busy).chain with retrying := true, retryRunning := false, retryUs := 0 }.startTransfer }
  else .next (s.withBusy busy)

end Sys2Proof.Machine
end

