-- ==== Sys2Proof/Machine/Cues.lean ====
section
/-! DEFINITION. The cue unit (chapter 2): the scan (R29, R30), the drain of the due list (R32) and the cue requests
(R23 to R27). -/

namespace Sys2Proof.Machine

/-! ## Scanning and draining -/

/-- How far a time lies ahead of the scan position, around midnight (R29). -/
def ahead (scan time : Nat) : Nat := (time + 864000 - scan) % 864000

/-- An enabled cue that the interval of d tenths from the scan position crosses (R29). -/
def Cue.crossed (scan d : Nat) (c : Cue) : Bool :=
  c.enabled && decide (1 ≤ ahead scan (c.time * 10)) && decide (ahead scan (c.time * 10) ≤ d)

/-- The cue list from the first cue after the scan position, followed to its end and on from its beginning (R30). -/
def cuesFrom (scan : Nat) (cues : List Cue) : List Cue :=
  cues.filter (fun c => decide (scan < c.time * 10)) ++ cues.filter (fun c => decide (c.time * 10 ≤ scan))

/-- An id joins the due list at the tail, unless it is there already (R30). -/
def appendDue (due : List Nat) (id : Nat) : List Nat := if id ∈ due then due else due ++ [id]

/-- The scan: where the model time is ahead of the scan position, the crossed cues join the due list and the scan position becomes
the model time (R29, R30). -/
def State.scan (s : State) : State :=
  let d := ahead s.clock.scan s.clock.time
  if 1 ≤ d ∧ d ≤ 432000 then
    { s with
      due := (((cuesFrom s.clock.scan s.cues).filter (Cue.crossed s.clock.scan d)).map Cue.id).foldl appendDue s.due
      clock := { s.clock with scan := s.clock.time } }
  else s

/-- The actions of these due ids are offered in order, each copied from its cue's record (R32, R33). -/
def State.offerCues : List Nat → State → State
  | [], s => s
  | id :: ids, s =>
    match s.cues.find? (fun c => c.id == id) with
    | some c => offerCues ids (s.offerAction ⟨.cue id, c.action⟩).1
    | none => offerCues ids s

/-- The drain: in NORMAL, up to 8 ids leave the head of the due list and their actions are offered (R32). -/
def State.drain (s : State) : State :=
  if s.isNormal then State.offerCues (s.due.take 8) { s with due := s.due.drop 8 } else s

/-! ## The cue list -/

/-- The order of the cue list: ascending time, then ascending id (R22). -/
def Cue.before (a b : Cue) : Bool := decide (a.time < b.time) || (a.time == b.time && decide (a.id < b.id))

/-- A record inserted at the place its time and id give it (R24). -/
def insertCue (c : Cue) : List Cue → List Cue
  | [] => [c]
  | d :: ds => if c.before d then c :: d :: ds else d :: insertCue c ds

/-- The due list without an id; the ids behind it keep their order (R31). -/
def dropDue (id : Nat) (due : List Nat) : List Nat := due.filter (fun x => x != id)

/-- CUE_ADD performed (R23, R24). -/
def performCueAdd (p : List Byte) (s : State) : Performed :=
  match p with
  | id :: t2 :: t1 :: t0 :: en :: kind :: n :: action =>
    if action.length ≠ n.toNat then refuse .badLength s
    else if 86399 < be3 t2 t1 t0 then refuse .badArgument s
    else
      match flag en with
      | none => refuse .badArgument s
      | some enabled =>
        if !storable kind action then refuse .badArgument s
        else
          let cue : Cue := ⟨id.toNat, be3 t2 t1 t0, enabled, ⟨kind, action⟩⟩
          if s.cues.any (fun c => c.id == id.toNat) then
            performed false
              { s with
                cues := insertCue cue (s.cues.filter (fun c => c.id != id.toNat))
                due := dropDue id.toNat s.due }
          else if 64 ≤ s.cues.length then refuse .tableFull s
          else performed false { s with cues := insertCue cue s.cues }
  | _ => refuse .badLength s

/-- CUE_REMOVE performed (R25). -/
def performCueRemove (p : List Byte) (s : State) : Performed :=
  match p with
  | [selector, id] =>
    match selector.toNat with
    | 0 =>
      if s.cues.any (fun c => c.id == id.toNat) then
        performed false
          { s with cues := s.cues.filter (fun c => c.id != id.toNat), due := dropDue id.toNat s.due }
      else refuse .noSuchObject s
    | 1 => performed false { s with cues := [], due := [] }
    | _ => refuse .badArgument s
  | _ => refuse .badLength s

/-- CUE_ENABLE performed (R26). -/
def performCueEnable (p : List Byte) (s : State) : Performed :=
  match p with
  | [id, en] =>
    if s.cues.any (fun c => c.id == id.toNat) then
      match flag en with
      | none => refuse .badArgument s
      | some enabled =>
        performed false
          { s with
            cues := s.cues.map (fun c => if c.id = id.toNat then { c with enabled := enabled } else c)
            due := if enabled then s.due else dropDue id.toNat s.due }
    else refuse .noSuchObject s
  | _ => refuse .badLength s

/-- CUE_QUERY performed (R27). -/
def performCueQuery (p : List Byte) (s : State) : Performed :=
  match p with
  | [position] =>
    match s.cues[position.toNat]? with
    | none => refuse .noSuchObject s
    | some c =>
      report
        (out1 s.cues.length ++ out1 s.due.length ++ out1 s.dispatcher.actions.length ++ out1 c.id ++ out3 c.time ++
          outFlag c.enabled ++ outFlag (s.due.contains c.id) ++ [c.action.kind] ++ out1 c.action.payload.length ++
          c.action.payload) s
  | _ => refuse .badLength s

/-! ## Meanings -/

/-- CUE_ADD (R24). -/
def execCueAdd (tag : Byte) (payload : List Byte) (s : State) : Host.Outcome State Fault Refusal :=
  hostRequest 0x1A#8 tag payload (performCueAdd payload) s

/-- CUE_REMOVE (R25). -/
def execCueRemove (tag : Byte) (payload : List Byte) (s : State) : Host.Outcome State Fault Refusal :=
  hostRequest 0x1B#8 tag payload (performCueRemove payload) s

/-- CUE_ENABLE (R26). -/
def execCueEnable (tag : Byte) (payload : List Byte) (s : State) : Host.Outcome State Fault Refusal :=
  hostRequest 0x1C#8 tag payload (performCueEnable payload) s

/-- CUE_QUERY (R27). -/
def execCueQuery (tag : Byte) (payload : List Byte) (s : State) : Host.Outcome State Fault Refusal :=
  hostRequest 0x1D#8 tag payload (performCueQuery payload) s

end Sys2Proof.Machine
end

