-- ==== Sys2Proof/Machine/Clock.lean ====
section
/-! DEFINITION. The scene clock (chapter 1): daylight level and phase (R10 to R12), the clock step with its stages (R2, R3, R15,
R18), the SYNC line (R14 to R17) and the clock requests. -/

namespace Sys2Proof.Machine

/-! ## Daylight and phase -/

/-- The level on the line from point a to point b, with time differences taken modulo one day (R10). -/
def interpolate (a b : CurvePoint) (t : Nat) : Nat :=
  let span := (b.minute * 60 + 86400 - a.minute * 60) % 86400
  let elapsed := (t + 86400 - a.minute * 60) % 86400
  ((a.level : Int) + Int.tdiv (((b.level : Int) - (a.level : Int)) * (elapsed : Int)) (span : Int)).toNat

/-- Point a: the last point at or before t, else the last point of the list (R10). -/
def pointAt (curve : List CurvePoint) (t : Nat) : Option CurvePoint :=
  ((curve.filter (fun p => decide (p.minute * 60 ≤ t))).getLast?).or curve.getLast?

/-- Point b: the first point after t, else the first point of the list (R10). -/
def pointAfter (curve : List CurvePoint) (t : Nat) : Option CurvePoint :=
  (curve.find? (fun p => decide (t < p.minute * 60))).or curve.head?

/-- The daylight level D at t whole model seconds (R10). -/
def daylight (curve : List CurvePoint) (t : Nat) : Nat :=
  match curve with
  | [] => 1000
  | [p] => p.level
  | curve =>
    match pointAt curve t, pointAfter curve t with
    | some a, some b => interpolate a b t
    | _, _ => 1000

/-- D recomputed from the model time and the curve (R10, R11). -/
def Clock.withLevel (c : Clock) : Clock := { c with level := daylight c.curve (c.time / 10) }

/-- The phase set plainly (R12). -/
def Clock.plainPhase (c : Clock) : Phase := if c.level < c.threshold then .night else .day

/-- The phase re-evaluated with hysteresis (R12). -/
def Clock.nextPhase (c : Clock) : Phase :=
  match c.phase with
  | .day => if c.level < c.threshold then .night else .day
  | .night => if c.threshold + c.hysteresis ≤ c.level then .day else .night

/-- The notice of a change to this phase: DUSK or DAWN, carrying D (R12). -/
def Clock.phaseEvent (c : Clock) : Phase → ClockEvent
  | .night => .dusk c.level
  | .day => .dawn c.level

/-- The phase takes a value; a change sends DUSK or DAWN (R12). -/
def State.setPhase (s : State) (p : Phase) : State :=
  if s.clock.phase = p then s
  else { s with clock := { s.clock with phase := p } }.send (.clock (s.clock.phaseEvent p))

/-- D is recomputed and the phase set plainly, as CLOCK_SET and CURVE_LOAD do (R4, R9). -/
def State.daylightPlain (s : State) : State :=
  let s := { s with clock := s.clock.withLevel }
  s.setPhase s.clock.plainPhase

/-- D is recomputed and the phase re-evaluated with hysteresis, as a clock step and a snap do (R2, R17). -/
def State.daylightStage (s : State) : State :=
  let s := { s with clock := s.clock.withLevel }
  s.setPhase s.clock.nextPhase

/-! ## The clock step -/

/-- The hold timer expires: RUNNING, the timer stopped, HOLD_END sent (R3). -/
def State.expireHold (s : State) : State :=
  { s with clock := { s.clock with state := .running, holdRunning := false, holdMs := 0 } }.send (.clock .holdEnd)

/-- Stage 1: the hold timer counts down by 100 ms in HELD and NORMAL (R2). -/
def State.holdStage (s : State) : State :=
  if s.clock.state = .held ∧ s.clock.holdRunning ∧ s.isNormal then
    if s.clock.holdMs ≤ 100 then s.expireHold
    else { s with clock := { s.clock with holdMs := s.clock.holdMs - 100 } }
  else s

/-- The day wraps: the day count increases, wrapping from 65,535, and DAY is sent (R2). -/
def State.dayWrap (s : State) : State :=
  let days := (s.clock.days + 1) % 65536
  { s with clock := { s.clock with days := days } }.send (.clock (.day days))

/-- The sync loss test of the follower (R18). -/
def State.syncLossTest (s : State) : State :=
  if 1200 ≤ s.clock.advance ∧ (s.clock.sync = .seeking ∨ s.clock.sync = .locked) then
    { s with clock := { s.clock with sync := .lost } }.send (.clock .syncLost)
  else s

/-- A follower's advance since pulse increases by the rate, saturating at 1,200, and the sync loss test is made (R2, R18). -/
def State.countAdvance (s : State) : State :=
  if s.clock.mode = .follower then
    { s with clock := { s.clock with advance := min 1200 (s.clock.advance + s.clock.rate) } }.syncLossTest
  else s

/-- Stage 2: in RUNNING and NORMAL the model time increases by the rate, around midnight (R2). -/
def State.advanceStage (s : State) : State :=
  if s.clock.state = .running ∧ s.isNormal then
    let sum := s.clock.time + s.clock.rate
    let t := { s with clock := { s.clock with time := sum % 864000 } }
    (if 864000 ≤ sum then t.dayWrap else t).countAdvance
  else s

/-- Stage 2 carries the model time across a whole-minute boundary, arriving on one included (R15). -/
def State.crossesMinute (s : State) : Bool :=
  decide (s.clock.state = .running) && s.isNormal && decide (s.clock.time / 600 < (s.clock.time + s.clock.rate) / 600)

/-- One SYNC pulse: the pin goes high for 1 ms; a pulse in progress stands for both (R15, R16). -/
def Clock.pulse (c : Clock) : Clock := if c.pin = .high then c else { c with pin := .high, pulseUs := 1000 }

/-- Stage 4: a leader whose stage 2 crossed a minute boundary pulses (R2, R15). -/
def State.leaderStage (s : State) (crossed : Bool) : State :=
  if s.clock.mode = .leader ∧ crossed then { s with clock := s.clock.pulse } else s

/-- The clock step: hold, advance, cues, leader pulse, daylight (R2). -/
def State.clockStep (s : State) : State :=
  let h := s.holdStage
  (h.advanceStage.scan.drain.leaderStage h.crossesMinute).daylightStage

/-! ## The SYNC line -/

/-- The model time snapped to the nearest whole minute, s being the tenths into the present minute; a forward change is scanned
(R17, steps 1 to 3). -/
def State.snapTime (s : State) (into : Nat) : State :=
  if into < 300 then { s with clock := { s.clock with time := s.clock.time - into } }
  else
    let sum := s.clock.time + (600 - into)
    let t := { s with clock := { s.clock with time := sum % 864000 } }
    (if 864000 ≤ sum then t.dayWrap else t).scan

/-- The sync state becomes LOCKED, with a notice when it was SEEKING or LOST (R17, steps 5 and 6). -/
def State.lockSync (s : State) (into : Nat) : State :=
  let t := { s with clock := { s.clock with advance := 0, sync := .locked } }
  if s.clock.sync = .seeking ∨ s.clock.sync = .lost then t.send (.clock (.syncLocked into)) else t

/-- A rising edge on SYNC, acted on by a FOLLOWER that is RUNNING in NORMAL (R17). -/
def State.syncEdge (s : State) : State :=
  if s.clock.mode = .follower ∧ s.clock.state = .running ∧ s.isNormal then
    ((s.snapTime (s.clock.time % 600)).daylightStage).lockSync (s.clock.time % 600)
  else s

/-- The end of a SYNC pulse: the pin returns low, or is released when the mode has left LEADER (R14, R15). -/
def Clock.pulseEnd (c : Clock) : Clock :=
  if c.pin = .high then { c with pin := if c.mode = .leader then .low else .undriven, pulseUs := 0 } else c

/-- A change of the sync mode (R14); a pulse in progress keeps the pin high until its end. -/
def Clock.setMode (c : Clock) (m : SyncMode) : Clock :=
  if c.mode = m then c
  else
    match m with
    | .leader => { c with mode := m, sync := .idle, pin := if c.pin = .high then .high else .low }
    | .follower => { c with mode := m, sync := .seeking, advance := 0, pin := if c.pin = .high then .high else .undriven }
    | .alone => { c with mode := m, sync := .idle, pin := if c.pin = .high then .high else .undriven }

/-! ## Clock requests -/

/-- CLOCK_SET performed (R4). -/
def performClockSet (p : List Byte) (s : State) : Performed :=
  match p with
  | [t2, t1, t0, r1, r0] =>
    if 86399 < be3 t2 t1 t0 then refuse .badArgument s
    else
      let rate := clamp 1 1440 (be2 r1 r0)
      performed (rate != be2 r1 r0)
        { s with clock := { s.clock with time := be3 t2 t1 t0 * 10, scan := be3 t2 t1 t0 * 10, rate := rate } }.daylightPlain
  | _ => refuse .badLength s

/-- The clock runs and the hold timer stops (R5). -/
def Clock.run (c : Clock) : Clock :=
  if c.state = .running then c else { c with state := .running, holdRunning := false, holdMs := 0 }

/-- CLOCK_RUN performed (R5). -/
def performClockRun (p : List Byte) (s : State) : Performed :=
  match p with
  | [] => performed false { s with clock := s.clock.run }
  | _ => refuse .badLength s

/-- CLOCK_HOLD performed (R6). -/
def performClockHold (p : List Byte) (s : State) : Performed :=
  match p with
  | [d1, d0] =>
    if s.clock.state = .stopped then refuse .stateConflict s
    else
      let d := clamp 0 3600 (be2 d1 d0)
      performed (d != be2 d1 d0)
        { s with clock := { s.clock with state := .held, holdRunning := d != 0, holdMs := d * 1000 } }
  | _ => refuse .badLength s

/-- CLOCK_STOP performed (R7). -/
def performClockStop (p : List Byte) (s : State) : Performed :=
  match p with
  | [] => performed false { s with clock := { s.clock with state := .stopped, holdRunning := false, holdMs := 0 } }
  | _ => refuse .badLength s

/-- A point of CURVE_LOAD: the time in the upper 12 bits, the level in the lower 12 (R181). -/
def pointOf (a b c : Byte) : CurvePoint := ⟨be3 a b c / 4096, be3 a b c % 4096⟩

/-- The points of a CURVE_LOAD, three bytes each (R181). -/
def pointsFrom : List Byte → List CurvePoint
  | a :: b :: c :: rest => pointOf a b c :: pointsFrom rest
  | _ => []

/-- A point joins the sorted list, replacing one with the same time (R9, steps 2 and 3). -/
def insertPoint (p : CurvePoint) : List CurvePoint → List CurvePoint
  | [] => [p]
  | q :: qs =>
    if p.minute < q.minute then p :: q :: qs else if p.minute = q.minute then p :: qs else q :: insertPoint p qs

/-- The curve that a list of points gives: levels clamped, sorted by time, the last given of equal times kept (R9). -/
def curveOf (points : List CurvePoint) : List CurvePoint :=
  points.foldl (fun curve p => insertPoint { p with level := clamp 0 1000 p.level } curve) []

/-- CURVE_LOAD performed (R9). -/
def performCurveLoad (p : List Byte) (s : State) : Performed :=
  match p with
  | n :: rest =>
    if rest.length ≠ 3 * n.toNat then refuse .badLength s
    else if 16 < n.toNat then refuse .badArgument s
    else
      let points := pointsFrom rest
      if points.any (fun q => decide (1439 < q.minute)) then refuse .badArgument s
      else
        performed (points.any (fun q => decide (1000 < q.level)))
          { s with clock := { s.clock with curve := curveOf points } }.daylightPlain
  | _ => refuse .badLength s

/-- SYNC_MODE performed (R14). -/
def performSyncMode (p : List Byte) (s : State) : Performed :=
  match p with
  | [b] =>
    match syncModeOf b with
    | none => refuse .badArgument s
    | some m => performed false { s with clock := s.clock.setMode m }
  | _ => refuse .badLength s

/-- CLOCK_MARK performed (R16). -/
def performClockMark (p : List Byte) (s : State) : Performed :=
  match p with
  | [] =>
    if s.clock.mode = .leader then performed false { s with clock := s.clock.pulse } else refuse .stateConflict s
  | _ => refuse .badLength s

/-- PHASE_CONFIG performed (R13). -/
def performPhaseConfig (p : List Byte) (s : State) : Performed :=
  match p with
  | [t1, t0, h] =>
    let c := { s.clock with threshold := clamp 0 1000 (be2 t1 t0), hysteresis := clamp 0 200 h.toNat }
    performed (c.threshold != be2 t1 t0 || c.hysteresis != h.toNat) ({ s with clock := c }.setPhase c.plainPhase)
  | _ => refuse .badLength s

/-- CLOCK_QUERY performed (R21, R183): a window of at most 11 curve points. -/
def performClockQuery (p : List Byte) (s : State) : Performed :=
  match p with
  | [first] =>
    let c := s.clock
    let window := (c.curve.drop first.toNat).take 11
    report
      (out1 c.state.code ++ out3 c.time ++ out2 c.rate ++ out2 c.days ++ out3 c.holdMs ++ outFlag c.holdRunning ++
        out3 c.scan ++ out2 c.level ++ out1 c.phase.code ++ out2 c.threshold ++ out1 c.hysteresis ++ out1 c.mode.code ++
        out1 c.sync.code ++ out2 c.advance ++ out1 c.curve.length ++ [first] ++ out1 window.length ++
        window.flatMap (fun q => out3 (q.minute * 4096 + q.level))) s
  | _ => refuse .badLength s

/-! ## Meanings -/

/-- CLOCK_SET (R4). -/
def execClockSet (tag : Byte) (payload : List Byte) (s : State) : Host.Outcome State Fault Refusal :=
  hostRequest 0x10#8 tag payload (performClockSet payload) s

/-- CLOCK_RUN (R5). -/
def execClockRun (tag : Byte) (payload : List Byte) (s : State) : Host.Outcome State Fault Refusal :=
  hostRequest 0x11#8 tag payload (performClockRun payload) s

/-- CLOCK_HOLD (R6). -/
def execClockHold (tag : Byte) (payload : List Byte) (s : State) : Host.Outcome State Fault Refusal :=
  hostRequest 0x12#8 tag payload (performClockHold payload) s

/-- CLOCK_STOP (R7). -/
def execClockStop (tag : Byte) (payload : List Byte) (s : State) : Host.Outcome State Fault Refusal :=
  hostRequest 0x13#8 tag payload (performClockStop payload) s

/-- CURVE_LOAD (R9). -/
def execCurveLoad (tag : Byte) (payload : List Byte) (s : State) : Host.Outcome State Fault Refusal :=
  hostRequest 0x14#8 tag payload (performCurveLoad payload) s

/-- SYNC_MODE (R14). -/
def execSyncMode (tag : Byte) (payload : List Byte) (s : State) : Host.Outcome State Fault Refusal :=
  hostRequest 0x15#8 tag payload (performSyncMode payload) s

/-- CLOCK_MARK (R16). -/
def execClockMark (tag : Byte) (payload : List Byte) (s : State) : Host.Outcome State Fault Refusal :=
  hostRequest 0x16#8 tag payload (performClockMark payload) s

/-- PHASE_CONFIG (R13). -/
def execPhaseConfig (tag : Byte) (payload : List Byte) (s : State) : Host.Outcome State Fault Refusal :=
  hostRequest 0x17#8 tag payload (performPhaseConfig payload) s

/-- CLOCK_QUERY (R21). -/
def execClockQuery (tag : Byte) (payload : List Byte) (s : State) : Host.Outcome State Fault Refusal :=
  hostRequest 0x18#8 tag payload (performClockQuery payload) s

/-- CLOCK_STEP (R2). -/
def execClockStep (s : State) : Host.Outcome State Fault Refusal := .next s.clockStep

/-- HOLD_END (R3, log 4, DESIGN CHOICE): the clock step at which the hold timer, where it runs and counts, reaches 0. -/
def execHoldEnd (s : State) : Host.Outcome State Fault Refusal :=
  if s.clock.state = .held ∧ s.clock.holdRunning ∧ s.isNormal then
    .next { s with clock := { s.clock with holdMs := 100 } }.clockStep
  else .next s

/-- SYNC_LOST (R18, log 4, DESIGN CHOICE): the clock step at which a follower's advance since pulse reaches 1,200 in SEEKING or LOCKED. -/
def execSyncLost (s : State) : Host.Outcome State Fault Refusal :=
  if s.clock.mode = .follower ∧ s.clock.state = .running ∧ s.isNormal ∧ (s.clock.sync = .seeking ∨ s.clock.sync = .locked) then
    .next { s with clock := { s.clock with advance := 1200 } }.clockStep
  else .next s

/-- SYNC_PULSE_END (R15). -/
def execSyncPulseEnd (s : State) : Host.Outcome State Fault Refusal := .next { s with clock := s.clock.pulseEnd }

/-- SYNC_EDGE (R17). -/
def execSyncEdge (s : State) : Host.Outcome State Fault Refusal := .next s.syncEdge

end Sys2Proof.Machine
end

