-- ==== Sys2Proof/Machine/Crossings.lean ====
section
/-! DEFINITION. The crossing requests (R150, R156, R158) and the expiry of the warning timer (R152). -/

namespace Sys2Proof.Machine

/-! ## Configuration -/

/-- A drive bound to a crossing or unbound (R82, R150). -/
def State.bind (s : State) (d : Option (Fin 4)) (c : Option (Fin 2)) : State :=
  match d with
  | some d => s.setDrive d { s.drives[d] with bound := c }
  | none => s

/-- The other crossing (R150). -/
def otherCrossing (c : Fin 2) : Fin 2 := if c = 0 then 1 else 0

/-- A block, where there is one, is SETTING or RESERVED (R150, checks 4 and 5). -/
def State.isHeld (s : State) (b : Option (Fin 16)) : Bool :=
  match b with
  | some b => s.blocks[b].reservation != .free
  | none => false

/-- A new barrier drive is no TRAVERSE drive, or is the barrier of the other crossing (R150, check 7). -/
def State.barrierRefused (s : State) (c : Fin 2) (d : Option (Fin 4)) : Bool :=
  match d with
  | none => false
  | some d =>
    (match s.drives[d].kind with | .traverse _ => false | _ => true) || s.crossings[otherCrossing c].barrier == some d

/-- The performance of CROSSING_CONFIG (R150). -/
def State.configureCrossing (s : State) (c : Fin 2) (b : Option (Fin 16)) (d : Option (Fin 4)) (warningMs : Nat) : State :=
  let s := s.bind s.crossings[c].barrier none
  let s := s.setCrossing c { block := b, barrier := d, warningMs := warningMs, state := none, timerRunning := false, timerUs := 0 }
  if b.isNone then s else (s.bind d (some c)).raise c false

/-- CROSSING_CONFIG performed (R150). -/
def performCrossingConfig (p : List Byte) (s : State) : Performed :=
  match p with
  | [c, b, d, w1, w0] =>
    match object 2 c, objectOrNone 16 b, objectOrNone 4 d with
    | some c, some b, some d =>
      if b.isNone ∧ d.isSome then refuse .badArgument s
      else if s.isHeld s.crossings[c].block then refuse .stateConflict s
      else if s.isHeld b then refuse .stateConflict s
      else if b.isSome ∧ s.crossings[otherCrossing c].block = b then refuse .stateConflict s
      else if s.barrierRefused c d then refuse .stateConflict s
      else
        let w := clamp 0 10000 (be2 w1 w0)
        performed (w != be2 w1 w0) (s.configureCrossing c b d w)
    | _, _, _ => refuse .noSuchObject s
  | _ => refuse .badLength s

/-! ## Resetting -/

/-- A RESERVED protected block becomes SETTING again as a crossing leaves CLOSED, and a RUNNING holder whose next block it is
enters APPROACH (R136, R155). -/
def State.unreserve (s : State) (b : Fin 16) : State :=
  if s.blocks[b].reservation = .reserved then
    let s := s.setBlock b { s.blocks[b] with reservation := .setting }
    match s.blocks[b].holder with
    | none => s
    | some t => if s.trains[t].next = some b ∧ s.trains[t].state = .running then s.enterApproach t else s
  else s

/-- The performance of CROSSING_RESET on a configured crossing (R156). -/
def State.resetCrossing (s : State) (c : Fin 2) (b : Fin 16) : State :=
  if s.blocks[b].reservation = .free then s.raise c (s.crossings[c].state != some .opened)
  else (s.unreserve b).lower c

/-- CROSSING_RESET performed (R156). -/
def performCrossingReset (p : List Byte) (s : State) : Performed :=
  match p with
  | [c] =>
    match object 2 c with
    | none => refuse .noSuchObject s
    | some c =>
      match s.crossings[c].block with
      | none => refuse .stateConflict s
      | some b => performed false (s.resetCrossing c b)
  | _ => refuse .badLength s

/-- The state code of a drive; unused where the drive has no state (R158). -/
def Drive.stateCode (x : Drive) : List Byte :=
  match x.kind with
  | .unconfigured => unused 1
  | .rotary r => out1 r.state.code
  | .traverse t => out1 t.state.code

/-- CROSSING_QUERY performed (R158). -/
def performCrossingQuery (p : List Byte) (s : State) : Performed :=
  match p with
  | [c] =>
    match object 2 c with
    | none => refuse .noSuchObject s
    | some c =>
      let k := s.crossings[c]
      report
        (outFlag k.block.isSome ++ outObject k.block ++ outObject k.barrier ++ out2 k.warningMs ++
          (match k.state with | some x => out1 x.code | none => unused 1) ++ out2 (k.timerUs / 1000) ++ outFlag k.timerRunning ++
          (match k.block with | some b => out1 s.blocks[b].reservation.code ++ outObject s.blocks[b].holder | none => unused 2) ++
          (match k.barrier with | some d => s.drives[d].stateCode | none => unused 1)) s
  | _ => refuse .badLength s

/-! ## SCENE_RESET -/

/-- A configured crossing set by SCENE_RESET: OPENING with its barrier commanded OPEN, or OPEN without a notice (R157). -/
def State.sceneResetCrossing (s : State) (c : Fin 2) : State :=
  if s.crossings[c].block.isSome then s.raise c false else s

/-! ## Meanings -/

/-- CROSSING_CONFIG (R150). -/
def execCrossingConfig (tag : Byte) (payload : List Byte) (s : State) : Host.Outcome State Fault Refusal :=
  hostRequest 0x50#8 tag payload (performCrossingConfig payload) s

/-- CROSSING_RESET (R156). -/
def execCrossingReset (tag : Byte) (payload : List Byte) (s : State) : Host.Outcome State Fault Refusal :=
  hostRequest 0x51#8 tag payload (performCrossingReset payload) s

/-- CROSSING_QUERY (R158). -/
def execCrossingQuery (tag : Byte) (payload : List Byte) (s : State) : Host.Outcome State Fault Refusal :=
  hostRequest 0x52#8 tag payload (performCrossingQuery payload) s

/-- WARNING_TIMER_EXPIRY (R152): the warning timer of a crossing in WARNING expires, in NORMAL. -/
def execWarningTimerExpiry (c : Fin 2) (s : State) : Host.Outcome State Fault Refusal :=
  if s.crossings[c].timerRunning && s.isNormal then .next (s.warningExpires c) else .next s

end Sys2Proof.Machine
end

