-- ==== Sys2Proof/Machine/Drives.lean ====
section
/-! DEFINITION. The drive unit (chapter 5): tach capture (R85 to R87), the control interval with its speed loop, stall test, stop
test and timers (R88, R89, R94, R96), stops and homing (R91 to R93), firings, the service state (R99), SCENE_RESET (R100) and the
drive requests. -/

namespace Sys2Proof.Machine

/-! ## Tach capture -/

/-- The tach capture restarts (R86). -/
def Rotary.restartCapture (r : Rotary) : Rotary := { r with history := [], counter := 0, subUs := 0, primed := false }

/-- The capture counter reaches 65,535 (R86). -/
def Rotary.overflow (r : Rotary) : Rotary := { r with history := [], counter := 65535, subUs := 0, primed := false }

/-- A captured period joins the history, the oldest of four being dropped first; a count of 0 is recorded as 1 (R85). -/
def Rotary.capture (r : Rotary) : Rotary :=
  { r with
    history := (if 4 ≤ r.history.length then r.history.tail else r.history) ++ [max 1 r.counter]
    counter := 0
    subUs := 0 }

/-- The capture counter counts further units, overflowing at 65,535 (R85, R86). -/
def Rotary.count (r : Rotary) (units : Nat) : Rotary :=
  if 65535 ≤ r.counter + units then r.overflow else { r with counter := r.counter + units }

/-- A rising edge on TACHn (R85). -/
def Rotary.edge (r : Rotary) : Rotary := if r.primed then r.capture else { r with counter := 0, subUs := 0, primed := true }

/-- The measured speed (R87). -/
def Rotary.measured (r : Rotary) : Nat :=
  if r.history.length = 0 then 0
  else min 9999 ((600000000 * r.history.length) / (r.history.sum * r.unit.us * r.ppr))

/-! ## The speed loop -/

/-- The setpoint moved toward the target by at most the setpoint ramp (R89, step 1). -/
def Rotary.nextSetpoint (r : Rotary) : Nat :=
  if r.setpoint ≤ r.target then min r.target (r.setpoint + r.ramp) else max r.target (r.setpoint - r.ramp)

/-- The raw duty (R89, step 4). -/
def rawDuty (kp ki : Nat) (e i : Int) : Int := Int.tdiv ((kp : Int) * e + (ki : Int) * i) 64

/-- The integral that a loop of this error leaves, and the duty: candidate integral, anti-windup and clamping (R89, steps 3
to 6). -/
def loopOutput (kp ki dutyMax : Nat) (e i : Int) : Int × Nat :=
  let candidate := max (-20000) (min 20000 (i + e))
  let raw := rawDuty kp ki e candidate
  let kept := if ((dutyMax : Int) < raw ∧ 0 < e) ∨ (raw < 0 ∧ e < 0) then i else candidate
  (kept, (max 0 (min (dutyMax : Int) (rawDuty kp ki e kept))).toNat)

/-- The speed loop of a ROTARY drive (R89). -/
def Drive.loop (x : Drive) (r : Rotary) : Drive :=
  let setpoint := r.nextSetpoint
  let y := loopOutput x.kp x.ki r.dutyMax ((setpoint : Int) - (r.speed : Int)) r.integral
  { x with duty := y.2, kind := .rotary { r with setpoint := setpoint, integral := y.1 } }

/-! ## Stops -/

/-- RUNNING, STOPPING and HOMING, in which the loop is worked (R88). -/
def RotaryState.turning (x : RotaryState) : Bool := x == .running || x == .stopping || x == .homing

/-- The duration and home timers of a ROTARY drive stop (R92, R94). That a timer which stops keeps no remaining time is the model's
(log 33, DEDUCED): only R83 says it. -/
def Rotary.stopTimers (r : Rotary) : Rotary :=
  { r with durationRunning := false, durationMs := 0, homeRunning := false, homeMs := 0 }

/-- A ROTARY drive enters STOPPED as for DRIVE_STOP COAST (R92). -/
def Drive.coast (x : Drive) (r : Rotary) : Drive :=
  { x with
    duty := 0
    kind :=
      .rotary
        { r.restartCapture.stopTimers with state := .stopped, target := 0, setpoint := 0, integral := 0 } }

/-- A ROTARY drive enters STOPPING (R92). -/
def Rotary.stopping (r : Rotary) : Rotary := { r.stopTimers with state := .stopping, target := 0 }

/-- A RUNNING drive starts homing (R93); the duration timer stops at 0 (log 33, DEDUCED). -/
def Rotary.homing (r : Rotary) : Rotary :=
  { r.stopTimers with
    state := .homing, target := min r.target r.creep, homeRunning := true, homeMs := r.homeS * 1000 }

/-- A ROTARY drive is armed for its index (R93). -/
def Rotary.armed (r : Rotary) (normal : Bool) : Bool := r.state == .homing && r.setpoint == r.target && normal

/-! ## The control interval -/

/-- The stall test reaches the stall time: the drive is STALLED, with its notice (R94). -/
def State.stall (s : State) (d : Fin 4) (r : Rotary) : State :=
  let x := s.drives[d]
  (s.setDrive d
    { x with
      duty := 0
      kind :=
        .rotary
          { r.restartCapture.stopTimers with state := .stalled, target := 0, setpoint := 0, integral := 0, stall := 0 } }).send
    (.drive d (.stalled r.target x.duty))

/-- The duration timer of a RUNNING drive expires: the ride stops by its ride end setting, RAMP where no index input is found
(R91). -/
def State.rideEnds (s : State) (d : Fin 4) (r : Rotary) : State :=
  if r.rideEnd = .home ∧ (s.inputWith (.index d)).isSome then
    (s.setDrive d { s.drives[d] with kind := .rotary r.homing }).send (.drive d (.rideEnd .home))
  else (s.setDrive d { s.drives[d] with kind := .rotary r.stopping }).send (.drive d (.rideEnd .ramp))

/-- The timers of step 5 of the control interval (R88). -/
def State.driveTimers (s : State) (d : Fin 4) (r : Rotary) : State :=
  match r.state with
  | .running =>
    if r.durationRunning then
      if r.durationMs ≤ 50 then s.rideEnds d r
      else s.setDrive d { s.drives[d] with kind := .rotary { r with durationMs := r.durationMs - 50 } }
    else s
  | .homing =>
    if r.homeRunning then
      if r.homeMs ≤ 50 then (s.setDrive d (s.drives[d].coast r)).send (.drive d .homeMissed)
      else s.setDrive d { s.drives[d] with kind := .rotary { r with homeMs := r.homeMs - 50 } }
    else s
  | _ => s

/-- The stall count after the stall test of an interval (R94). -/
def Rotary.stallCount (r : Rotary) (duty : Nat) : Nat := if r.speed = 0 ∧ r.stallDuty ≤ duty then r.stall + 1 else 0

/-- Steps 3 to 5 of the control interval, after the loop has been worked (R88). -/
def State.afterLoop (s : State) (d : Fin 4) (r : Rotary) : State :=
  let r := { r with stall := r.stallCount s.drives[d].duty }
  if r.stallMs / 50 ≤ r.stall then s.stall d r
  else
    let s := s.setDrive d { s.drives[d] with kind := .rotary r }
    if r.state = .stopping ∧ r.setpoint = 0 ∧ r.speed = 0 then
      s.setDrive d
        { s.drives[d] with duty := 0, kind := .rotary { r.restartCapture with state := .stopped, integral := 0 } }
    else s.driveTimers d r

/-- The control interval of a ROTARY drive (R88). -/
def State.rotaryInterval (s : State) (d : Fin 4) (r : Rotary) : State :=
  let r := { r with speed := r.measured }
  let x := { s.drives[d] with kind := .rotary r }
  if s.isNormal && r.state.turning then
    let y := x.loop r
    match y.kind with
    | .rotary r => (s.setDrive d y).afterLoop d r
    | _ => s
  else s.setDrive d x

/-- The end that a moving TRAVERSE drive moves toward (R96). -/
def TraverseState.movingTo : TraverseState → Option End
  | .movingOpen => some .opened
  | .movingClosed => some .closed
  | _ => none

/-- The travel timer of a TRAVERSE drive expires (R96): FAULT, its notice, and the report to a bound crossing. -/
def State.travelFaults (s : State) (d : Fin 4) (t : Traverse) (x : End) : State :=
  let drive := s.drives[d]
  let s :=
    (s.setDrive d
      { drive with duty := 0, kind := .traverse { t.stopTimer with state := .fault } }).send
      (.drive d (.travelFault x))
  match drive.bound with
  | some c => s.crossingFault c x
  | none => s

/-- The control interval of a TRAVERSE drive: its travel timer counts down by 50 ms (R96). A travel timeout need not be a multiple of
50 ms: that a timer with less than 50 ms left expires at that interval is the model's (log 34, DEDUCED). -/
def State.traverseInterval (s : State) (d : Fin 4) (t : Traverse) : State :=
  match t.state.movingTo with
  | none => s
  | some x =>
    if t.travelRunning && s.isNormal then
      if t.travelMs ≤ 50 then s.travelFaults d t x
      else s.setDrive d { s.drives[d] with kind := .traverse { t with travelMs := t.travelMs - 50 } }
    else s

/-- The control interval of one drive (R88). -/
def State.driveInterval (s : State) (d : Fin 4) : State :=
  match s.drives[d].kind with
  | .unconfigured => s
  | .rotary r => s.rotaryInterval d r
  | .traverse t => s.traverseInterval d t

/-- The control interval: every drive on its own (R88), in ascending number, an order that the spec does not give (log 20, DESIGN
CHOICE). -/
def State.controlInterval (s : State) : State := (List.finRange 4).foldl State.driveInterval s

/-! ## Firings -/

/-- An index firing for a drive: an armed drive takes it as the home mark (R93); the target becomes 0 with the setpoint, as the
worked sequence of section 5.4 shows (log 18, DEDUCED). -/
def State.indexFires (s : State) (d : Fin 4) : State :=
  match s.drives[d].kind with
  | .rotary r => if r.armed s.isNormal then (s.setDrive d (s.drives[d].coast r)).send (.drive d .homed) else s
  | _ => s

/-- An end firing for a drive: a TRAVERSE drive that moves toward that end has reached it (R96). -/
def State.endFires (s : State) (d : Fin 4) (x : End) : State :=
  match s.drives[d].kind with
  | .traverse t => if t.state = x.movingState then s.reachEnd d t x else s
  | _ => s

/-! ## Service and SCENE_RESET -/

/-- The service state leaves NORMAL (R99). -/
def Drive.freeze (x : Drive) : Drive :=
  { x with
    duty := 0
    kind := match x.kind with
      | .rotary r => .rotary { r with setpoint := 0, integral := 0, stall := 0 }
      | k => k }

/-- The service state returns to NORMAL (R99). -/
def Drive.thaw (x : Drive) : Drive :=
  match x.kind with
  | .traverse t =>
    if t.state.movingTo.isSome then
      { x with duty := t.travelDuty, kind := .traverse { t with travelRunning := true, travelMs := t.timeoutMs } }
    else x
  | _ => x

/-- A moving TRAVERSE drive stopped in MID (R97, R100). -/
def Drive.halt (x : Drive) (t : Traverse) : Drive :=
  { x with duty := 0, kind := .traverse { t.stopTimer with state := .mid } }

/-- A drive after SCENE_RESET, but for the command that a bound drive takes from its crossing (R100). -/
def Drive.sceneReset (x : Drive) : Drive :=
  match x.kind with
  | .unconfigured => x
  | .rotary r => x.coast r
  | .traverse t =>
    if x.bound.isNone && (t.state.movingTo.isSome || t.state == .fault) then x.halt t else x

/-! ## Drive requests -/

/-- A ROTARY drive afresh with these settings (R83). -/
def rotaryAfresh (ppr : Nat) (unit : CaptureUnit) (dutyMax ramp creep stallDuty stallMs homeS : Nat) (e : RideEnd) : Rotary :=
  { ppr := ppr, unit := unit, dutyMax := dutyMax, ramp := ramp, creep := creep, stallDuty := stallDuty, stallMs := stallMs,
    homeS := homeS, rideEnd := e, state := .stopped, target := 0, setpoint := 0, integral := 0, speed := 0, counter := 0,
    subUs := 0, primed := false, history := [], stall := 0, durationRunning := false, durationMs := 0, homeRunning := false,
    homeMs := 0 }

/-- The kind that the settings of DRIVE_CONFIG give, and whether a value was clamped; else the result that refuses them (R83,
checks 3 and 4; section 11.2). -/
def driveKindOf (kind : Byte) (p : List Byte) : Except Result (DriveKind × Bool) :=
  match kind.toNat, p with
  | 0, _ => .ok (.unconfigured, false)
  | 1, [ppr, unit, m1, m0, ramp, c1, c0, d1, d0, t1, t0, home, e] =>
    match captureUnitOf unit, rideEndOf e with
    | some unit, some e =>
      let r :=
        rotaryAfresh (clamp 1 255 ppr.toNat) unit (clamp 0 1000 (be2 m1 m0)) (clamp 1 255 ramp.toNat)
          (clamp 1 1000 (be2 c1 c0)) (clamp 1 1000 (be2 d1 d0)) (clamp 100 10000 (be2 t1 t0)) (clamp 1 255 home.toNat) e
      .ok (.rotary r,
        r.ppr != ppr.toNat || r.dutyMax != be2 m1 m0 || r.ramp != ramp.toNat || r.creep != be2 c1 c0 ||
          r.stallDuty != be2 d1 d0 || r.stallMs != be2 t1 t0 || r.homeS != home.toNat)
    | _, _ => .error .badArgument
  | 2, [d1, d0, t1, t0] =>
    let t : Traverse :=
      { travelDuty := clamp 1 1000 (be2 d1 d0), timeoutMs := clamp 100 60000 (be2 t1 t0), state := .mid,
        travelRunning := false, travelMs := 0 }
    .ok (.traverse t, t.travelDuty != be2 d1 d0 || t.timeoutMs != be2 t1 t0)
  | _, _ => .error .badArgument

/-- The length that a kind byte of DRIVE_CONFIG calls for after its first two bytes; any length for a byte outside the three kinds
(R182, step 2). -/
def driveConfigFits (kind : Byte) (rest : List Byte) : Bool :=
  match kind.toNat with
  | 0 => rest.length == 0
  | 1 => rest.length == 13
  | 2 => rest.length == 4
  | _ => true

/-- DRIVE_CONFIG performed (R83). -/
def performDriveConfig (p : List Byte) (s : State) : Performed :=
  match p with
  | d :: kind :: rest =>
    if !driveConfigFits kind rest then refuse .badLength s
    else
      match object 4 d with
      | none => refuse .noSuchObject s
      | some d =>
        if s.drives[d].bound.isSome then refuse .stateConflict s
        else
          match driveKindOf kind rest with
          | .error r => refuse r s
          | .ok (k, adjusted) =>
            performed adjusted
              (s.setDrive d
                { s.drives[d] with
                  kind := k, duty := 0, direction := if k = .unconfigured then s.drives[d].direction else .low })
  | _ => refuse .badLength s

/-- DRIVE_TUNE performed (R84). -/
def performDriveTune (p : List Byte) (s : State) : Performed :=
  match p with
  | [d, p1, p0, i1, i0] =>
    match object 4 d with
    | none => refuse .noSuchObject s
    | some d =>
      let kp := clamp 0 255 (be2 p1 p0)
      let ki := clamp 0 255 (be2 i1 i0)
      performed (kp != be2 p1 p0 || ki != be2 i1 i0) (s.setDrive d { s.drives[d] with kp := kp, ki := ki })
  | _ => refuse .badLength s

/-- DRIVE_RUN's effect on the items of a ROTARY drive, the direction apart (R90); a timer that stops keeps no remaining time (log 33,
DEDUCED). -/
def Rotary.run (r : Rotary) (target durationMs : Nat) : Rotary :=
  let r := { r with durationRunning := durationMs != 0, durationMs := durationMs, target := target }
  match r.state with
  | .stopped => { r with setpoint := 0, integral := 0, stall := 0, state := .running }
  | .stalled => { r with setpoint := 0, integral := 0, stall := 0, state := .running }
  | .running => r
  | .stopping => { r with state := .running }
  | .homing => { r with state := .running, homeRunning := false, homeMs := 0 }

/-- DRIVE_RUN performed (R90). -/
def performDriveRun (p : List Byte) (s : State) : Performed :=
  match p with
  | [d, t1, t0, dir, s1, s0] =>
    match object 4 d with
    | none => refuse .noSuchObject s
    | some d =>
      match s.drives[d].kind with
      | .rotary r =>
        match directionOf dir with
        | none => refuse .badArgument s
        | some dir =>
          if dir ≠ s.drives[d].direction ∧ r.state ≠ .stopped then refuse .stateConflict s
          else
            let target := clamp 0 6000 (be2 t1 t0)
            let duration := clamp 0 3600 (be2 s1 s0)
            performed (target != be2 t1 t0 || duration != be2 s1 s0)
              (s.setDrive d { s.drives[d] with direction := dir, kind := .rotary (r.run target (duration * 1000)) })
      | _ => refuse .stateConflict s
  | _ => refuse .badLength s

/-- DRIVE_STOP on a ROTARY drive (R92, R93). -/
def stopRotary (d : Fin 4) (r : Rotary) (mode : Nat) (s : State) : Performed :=
  let x := s.drives[d]
  match mode with
  | 0 => if r.state = .stopped then performed false s else performed false (s.setDrive d (x.coast r))
  | 1 =>
    match r.state with
    | .stopped => performed false s
    | .stopping => performed false s
    | .running => performed false (s.setDrive d { x with kind := .rotary r.stopping })
    | .homing => performed false (s.setDrive d { x with kind := .rotary r.stopping })
    | .stalled => performed false (s.setDrive d (x.coast r))
  | _ =>
    if (s.inputWith (.index d)).isNone then refuse .badArgument s
    else
      match r.state with
      | .stopping => refuse .stateConflict s
      | .stalled => refuse .stateConflict s
      | .stopped => performed false s
      | .homing => performed false s
      | .running => performed false (s.setDrive d { x with kind := .rotary r.homing })

/-- DRIVE_STOP on a TRAVERSE drive (R97). -/
def stopTraverse (d : Fin 4) (t : Traverse) (mode : Nat) (s : State) : Performed :=
  if s.drives[d].bound.isSome then refuse .stateConflict s
  else if mode = 2 then refuse .badArgument s
  else if t.state.movingTo.isSome then performed false (s.setDrive d (s.drives[d].halt t))
  else performed false s

/-- DRIVE_STOP performed (R92, R93, R97): the checks of R92 before those of R97 and R93. -/
def performDriveStop (p : List Byte) (s : State) : Performed :=
  match p with
  | [d, mode] =>
    match object 4 d with
    | none => refuse .noSuchObject s
    | some d =>
      match s.drives[d].kind with
      | .unconfigured => refuse .stateConflict s
      | .rotary r => if 2 < mode.toNat then refuse .badArgument s else stopRotary d r mode.toNat s
      | .traverse t => if 2 < mode.toNat then refuse .badArgument s else stopTraverse d t mode.toNat s
  | _ => refuse .badLength s

/-- DRIVE_MOVE performed, its checks in the order of R95 (R182): the drive's kind, the end, then the binding (R98; log 32, DEDUCED). -/
def performDriveMove (p : List Byte) (s : State) : Performed :=
  match p with
  | [d, e] =>
    match object 4 d with
    | none => refuse .noSuchObject s
    | some d =>
      match s.drives[d].kind with
      | .traverse _ =>
        match endOf e with
        | none => refuse .badArgument s
        | some x => if s.drives[d].bound.isSome then refuse .stateConflict s else performed false (s.move d x)
      | _ => refuse .stateConflict s
  | _ => refuse .badLength s

/-- The debounced level of the input that holds an end's use, 0xFF where no input holds it (R101, R183). -/
def State.endLevel (s : State) (d : Fin 4) (x : End) : List Byte :=
  match s.inputWith (endUse d x) with
  | some i => outFlag s.inputs[i].level
  | none => unused 1

/-- The data of DRIVE_QUERY (R101, R183; log 17, DEDUCED). -/
def State.driveReport (s : State) (d : Fin 4) : List Byte :=
  let x := s.drives[d]
  match x.kind with
  | .unconfigured => out1 0 ++ unused 13 ++ out2 x.kp ++ out2 x.ki ++ unused 4 ++ outObject x.bound ++ unused 25
  | .rotary r =>
    out1 1 ++
      (out1 r.ppr ++ out1 r.unit.code ++ out2 r.dutyMax ++ out1 r.ramp ++ out2 r.creep ++ out2 r.stallDuty ++ out2 r.stallMs ++
        out1 r.homeS ++ out1 r.rideEnd.code) ++
      out2 x.kp ++ out2 x.ki ++ out1 r.state.code ++ out2 x.duty ++ out1 x.direction.code ++ outObject x.bound ++
      outFlag s.isNormal ++
      (out2 r.target ++ out2 r.setpoint ++ outSigned r.integral ++ out2 r.speed ++ out1 r.history.length ++ out3 r.history.sum ++
        out1 r.stall ++ out3 r.durationMs ++ outFlag r.durationRunning ++ out3 r.homeMs ++ outFlag r.homeRunning ++
        (if r.state = .homing then out2 r.target else unused 2) ++ outFlag (r.armed s.isNormal))
  | .traverse t =>
    out1 2 ++ padTo 13 (out2 t.travelDuty ++ out2 t.timeoutMs) ++ out2 x.kp ++ out2 x.ki ++ out1 t.state.code ++ out2 x.duty ++
      out1 x.direction.code ++ outObject x.bound ++ outFlag s.isNormal ++
      padTo 24 (out2 t.travelMs ++ outFlag t.travelRunning ++ s.endLevel d .opened ++ s.endLevel d .closed)

/-- DRIVE_QUERY performed (R101). -/
def performDriveQuery (p : List Byte) (s : State) : Performed :=
  match p with
  | [d] =>
    match object 4 d with
    | none => refuse .noSuchObject s
    | some d => report (s.driveReport d) s
  | _ => refuse .badLength s

/-! ## Meanings -/

/-- DRIVE_CONFIG (R83). -/
def execDriveConfig (tag : Byte) (payload : List Byte) (s : State) : Host.Outcome State Fault Refusal :=
  hostRequest 0x30#8 tag payload (performDriveConfig payload) s

/-- DRIVE_TUNE (R84). -/
def execDriveTune (tag : Byte) (payload : List Byte) (s : State) : Host.Outcome State Fault Refusal :=
  hostRequest 0x31#8 tag payload (performDriveTune payload) s

/-- DRIVE_RUN (R90). -/
def execDriveRun (tag : Byte) (payload : List Byte) (s : State) : Host.Outcome State Fault Refusal :=
  hostRequest 0x32#8 tag payload (performDriveRun payload) s

/-- DRIVE_STOP (R92, R93, R97). -/
def execDriveStop (tag : Byte) (payload : List Byte) (s : State) : Host.Outcome State Fault Refusal :=
  hostRequest 0x33#8 tag payload (performDriveStop payload) s

/-- DRIVE_MOVE (R95). -/
def execDriveMove (tag : Byte) (payload : List Byte) (s : State) : Host.Outcome State Fault Refusal :=
  hostRequest 0x34#8 tag payload (performDriveMove payload) s

/-- DRIVE_QUERY (R101). -/
def execDriveQuery (tag : Byte) (payload : List Byte) (s : State) : Host.Outcome State Fault Refusal :=
  hostRequest 0x35#8 tag payload (performDriveQuery payload) s

/-- DRIVE_CONTROL_INTERVAL (R88). -/
def execDriveControlInterval (s : State) : Host.Outcome State Fault Refusal := .next s.controlInterval

/-- A drive with the items of its ROTARY kind replaced. -/
def State.setRotary (s : State) (d : Fin 4) (r : Rotary) : State := s.setDrive d { s.drives[d] with kind := .rotary r }

/-- TACH_EDGE (R85): the capture counter has counted these units more when the edge comes (log 14, DESIGN CHOICE). -/
def execTachEdge (d : Fin 4) (units : Nat) (s : State) : Host.Outcome State Fault Refusal :=
  match s.drives[d].kind with
  | .rotary r => .next (s.setRotary d (r.count units).edge)
  | _ => .next s

/-- CAPTURE_OVERFLOW (R86). -/
def execCaptureOverflow (d : Fin 4) (s : State) : Host.Outcome State Fault Refusal :=
  match s.drives[d].kind with
  | .rotary r => .next (s.setRotary d r.overflow)
  | _ => .next s

/-- STALLED (R94, log 4, DESIGN CHOICE): the control interval before which the stall count of a turning drive stands one short of the stall
time. -/
def execStalled (d : Fin 4) (s : State) : Host.Outcome State Fault Refusal :=
  match s.drives[d].kind with
  | .rotary r =>
    if r.state.turning && s.isNormal then .next (s.setRotary d { r with stall := r.stallMs / 50 - 1 }).controlInterval
    else .next s
  | _ => .next s

/-- RIDE_END (R91, log 4, DESIGN CHOICE): the control interval at which the running duration timer of a RUNNING drive reaches 0. -/
def execRideEnd (d : Fin 4) (s : State) : Host.Outcome State Fault Refusal :=
  match s.drives[d].kind with
  | .rotary r =>
    if r.state == .running && r.durationRunning && s.isNormal then
      .next (s.setRotary d { r with durationMs := 50 }).controlInterval
    else .next s
  | _ => .next s

/-- HOME_MISSED (R93, log 4, DESIGN CHOICE): the control interval at which the running home timer of a HOMING drive reaches 0. -/
def execHomeMissed (d : Fin 4) (s : State) : Host.Outcome State Fault Refusal :=
  match s.drives[d].kind with
  | .rotary r =>
    if r.state == .homing && r.homeRunning && s.isNormal then
      .next (s.setRotary d { r with homeMs := 50 }).controlInterval
    else .next s
  | _ => .next s

/-- TRAVEL_FAULT (R96, log 4, DESIGN CHOICE): the control interval at which the running travel timer of a moving TRAVERSE drive reaches 0. -/
def execTravelFault (d : Fin 4) (s : State) : Host.Outcome State Fault Refusal :=
  match s.drives[d].kind with
  | .traverse t =>
    if t.state.movingTo.isSome && t.travelRunning && s.isNormal then
      .next (s.setDrive d { s.drives[d] with kind := .traverse { t with travelMs := 50 } }).controlInterval
    else .next s
  | _ => .next s

end Sys2Proof.Machine
end

