-- ==== Sys2Proof/Machine/Lighting.lean ====
section
/-! DEFINITION. The lighting engine's own work (chapter 3): fades (R44, R45), the LFSR (R57), role work and base levels (R46 to
R56), composition and output (R59 to R61), and the lighting requests. The lighting frame itself, which reads the track and the
crossings, is in Frame.lean. -/

namespace Sys2Proof.Machine

/-! ## Fades -/

/-- A fade record's output (R44). -/
def Fade.output (f : Fade) : Nat :=
  if f.elapsed < f.total then
    ((f.start : Int) + Int.tdiv (((f.stop : Int) - (f.start : Int)) * (f.elapsed : Int)) (f.total : Int)).toNat
  else f.stop

/-- A running fade advances by one frame (R44). -/
def Fade.advance (f : Fade) : Fade := if f.elapsed < f.total then { f with elapsed := f.elapsed + 1 } else f

/-- A fade started toward a level with a duration in ms, from the record's present output (R44, R45). -/
def Fade.begin (f : Fade) (level durationMs : Nat) : Fade :=
  { start := f.output, stop := level, total := durationMs / 10, elapsed := 0 }

/-- A fade cancelled at a level (R45). -/
def Fade.cancel (level : Nat) : Fade := { start := level, stop := level, total := 0, elapsed := 0 }

/-! ## The LFSR -/

/-- A draw: the value shifted right, exclusive-ORed with 0xB400 when the bit shifted out was 1 (R57). -/
def draw (v : Lfsr) : Lfsr := if v.getLsbD 0 then (v >>> 1) ^^^ 0xB400#16 else v >>> 1

/-! ## What a frame reads -/

/-- The state of other units that a lighting frame reads in its first step (R42, R43). -/
structure Outside where
  level : Nat
  phase : Phase
  aspects : Vector Aspect 16
  crossings : Vector (Option CrossingState) 2
  normal : Bool
  flash : Nat
  groups : Vector Fade 16

/-! ## Role work -/

/-- The on-condition of a NIGHT channel (R49). -/
def onCondition (o : Outside) (mode : NightMode) (onBelow : Nat) : Bool :=
  match mode with
  | .followPhase => o.phase == .night
  | .thresholds => decide (o.level < onBelow)

/-- The off-condition of a NIGHT channel (R49). -/
def offCondition (o : Outside) (mode : NightMode) (offAbove : Nat) : Bool :=
  match mode with
  | .followPhase => o.phase == .day
  | .thresholds => decide (offAbove < o.level)

/-- A stagger drawn from the LFSR: 0 to stagger × 100 frames (R50). -/
def staggerDraw (v : Lfsr) (stagger : Nat) : Nat := (draw v).toNat % (stagger * 100 + 1)

/-- The switching of a NIGHT channel in one frame (R50, R51). -/
def nightWork (c : Channel) (v : Lfsr) (onHolds offHolds : Bool) (onLevel stagger warmMs : Nat) : Channel × Lfsr :=
  match c.switching with
  | .off =>
    if onHolds then
      if staggerDraw v stagger = 0 then ({ c with switching := .on, fade := c.fade.begin onLevel warmMs }, draw v)
      else ({ c with switching := .pendingOn, remaining := staggerDraw v stagger }, draw v)
    else (c, v)
  | .pendingOn =>
    if onHolds then
      if c.remaining ≤ 1 then
        ({ c with switching := .on, remaining := 0, fade := c.fade.begin onLevel warmMs }, v)
      else ({ c with remaining := c.remaining - 1 }, v)
    else ({ c with switching := .off, remaining := 0 }, v)
  | .on =>
    if offHolds then
      if staggerDraw v stagger = 0 then ({ c with switching := .off, fade := c.fade.begin 0 warmMs }, draw v)
      else ({ c with switching := .pendingOff, remaining := staggerDraw v stagger }, draw v)
    else (c, v)
  | .pendingOff =>
    if offHolds then
      if c.remaining ≤ 1 then ({ c with switching := .off, remaining := 0, fade := c.fade.begin 0 warmMs }, v)
      else ({ c with remaining := c.remaining - 1 }, v)
    else ({ c with switching := .on, remaining := 0 }, v)

/-- The level of a BREATHE channel at a position (R54). -/
def breathe (min max period k : Nat) : Nat :=
  if k < period / 2 then min + ((max - min) * k) / (period / 2)
  else max - ((max - min) * (k - period / 2)) / (period - period / 2)

/-- The cycle position after this frame's (R52). -/
def nextPosition (k cycle : Nat) : Nat := if k + 1 < cycle then k + 1 else 0

/-- The role work of a frame: NIGHT switching or the effect step, with any draw from the LFSR; an effect's base level is computed
here (R42, R50 to R54). -/
def roleWork (o : Outside) (c : Channel) (v : Lfsr) : Channel × Lfsr :=
  match c.role with
  | .night onLevel mode onBelow offAbove stagger warmMs =>
    nightWork c v (onCondition o mode onBelow) (offCondition o mode offAbove) onLevel stagger warmMs
  | .flicker min max period =>
    if c.position = 0 then
      let held := min + (draw v).toNat % (max - min + 1)
      ({ c with held := held, base := held, position := nextPosition c.position period }, draw v)
    else ({ c with base := c.held, position := nextPosition c.position period }, v)
  | .blink level onFrames offFrames =>
    ({ c with base := if c.position < onFrames then level else 0, position := nextPosition c.position (onFrames + offFrames) }, v)
  | .breathe min max period =>
    ({ c with base := breathe min max period c.position, position := nextPosition c.position period }, v)
  | _ => (c, v)

/-- The side of a CROSSING channel that the flash position favours (R56): side 0 for 0 to 49, side 1 for 50 to 99. -/
def flashLights (flash : Nat) (side : Bool) : Bool := if side then decide (50 ≤ flash) else decide (flash < 50)

/-- The crossing's lamps flash: configured and in any state other than OPEN (R56). -/
def lampsFlash (state : Option CrossingState) : Bool :=
  match state with
  | none => false
  | some .opened => false
  | some _ => true

/-- The base level B of a channel after its role work and its fade's advance (R46 to R56). -/
def baseLevel (o : Outside) (c : Channel) : Nat :=
  match c.role with
  | .off => 0
  | .fixed => c.fade.output
  | .daylight gain invert => ((if invert then 1000 - o.level else o.level) * gain) / 1000
  | .night .. => c.fade.output
  | .flicker .. => c.base
  | .blink .. => c.base
  | .breathe .. => c.base
  | .signal block aspect level => if o.aspects[block] = aspect then level else 0
  | .crossing crossing side level =>
    if lampsFlash o.crossings[crossing] && flashLights o.flash side then level else 0

/-- The group scale that a channel is composed with: 1000 for group none (R41, R59). -/
def groupScale (o : Outside) (c : Channel) : Nat :=
  match c.group with
  | some g => o.groups[g].output
  | none => 1000

/-- The response curve (R59). -/
def shape (r : Response) (scaled : Nat) : Nat :=
  match r with
  | .linear => scaled
  | .square => (scaled * scaled) / 1000

/-- The chain byte of an output level (R61). -/
def chainByte (level : Nat) : Nat := (level * 255 + 500) / 1000

/-- B, S, R with the service override, and the output of a channel (R59 to R61). -/
def compose (o : Outside) (number : Nat) (c : Channel) : Channel :=
  let base := min 1000 (baseLevel o c)
  let scaled := (base * groupScale o c) / 1000
  let level := if !o.normal && c.service then 1000 else shape c.response scaled
  { c with base := base, scaled := scaled, level := level, output := if number < 32 then level else chainByte level }

/-- The work of one channel in a frame: role work, the fade's advance, composition and output (R42, step 3). -/
def channelFrame (o : Outside) (number : Nat) (c : Channel) (v : Lfsr) : Channel × Lfsr :=
  let r := roleWork o c v
  (compose o number { r.1 with fade := r.1.fade.advance }, r.2)

/-! ## Lighting requests -/

/-- A role with its parameters out of the ten bytes of LIGHT_CONFIG, and whether a value was clamped; else the result that
refuses it (R48 to R56, section 11.2). -/
def roleOf (code : Byte) (p : List Byte) : Except Result (Role × Bool) :=
  match code.toNat, p with
  | 0, _ => .ok (.off, false)
  | 1, _ => .ok (.fixed, false)
  | 2, g1 :: g0 :: inv :: _ =>
    match flag inv with
    | none => .error .badArgument
    | some inv => .ok (.daylight (clamp 0 1000 (be2 g1 g0)) inv, clamp 0 1000 (be2 g1 g0) != be2 g1 g0)
  | 3, [l1, l0, mode, b1, b0, a1, a0, st, w1, w0] =>
    match nightModeOf mode with
    | none => .error .badArgument
    | some mode =>
      let onLevel := clamp 0 1000 (be2 l1 l0)
      let below := clamp 0 1000 (be2 b1 b0)
      let above := clamp 0 1000 (be2 a1 a0)
      let stagger := clamp 0 60 st.toNat
      if mode = .thresholds ∧ above < below then .error .badArgument
      else
        .ok (.night onLevel mode below above stagger (be2 w1 w0),
          onLevel != be2 l1 l0 || below != be2 b1 b0 || above != be2 a1 a0 || stagger != st.toNat)
  | 4, m1 :: m0 :: x1 :: x0 :: period :: _ =>
    let lo := clamp 0 1000 (be2 m1 m0)
    let hi := clamp 0 1000 (be2 x1 x0)
    let per := clamp 1 255 period.toNat
    if hi < lo then .error .badArgument
    else .ok (.flicker lo hi per, lo != be2 m1 m0 || hi != be2 x1 x0 || per != period.toNat)
  | 5, l1 :: l0 :: n1 :: n0 :: f1 :: f0 :: _ =>
    let level := clamp 0 1000 (be2 l1 l0)
    let lit := clamp 1 65535 (be2 n1 n0)
    let dark := clamp 1 65535 (be2 f1 f0)
    .ok (.blink level lit dark, level != be2 l1 l0 || lit != be2 n1 n0 || dark != be2 f1 f0)
  | 6, m1 :: m0 :: x1 :: x0 :: p1 :: p0 :: _ =>
    let lo := clamp 0 1000 (be2 m1 m0)
    let hi := clamp 0 1000 (be2 x1 x0)
    let per := clamp 2 65535 (be2 p1 p0)
    if hi < lo then .error .badArgument
    else .ok (.breathe lo hi per, lo != be2 m1 m0 || hi != be2 x1 x0 || per != be2 p1 p0)
  | 7, b :: a :: l1 :: l0 :: _ =>
    match object 16 b, aspectOf a with
    | none, _ => .error .noSuchObject
    | some _, none => .error .badArgument
    | some b, some a => .ok (.signal b a (clamp 0 1000 (be2 l1 l0)), clamp 0 1000 (be2 l1 l0) != be2 l1 l0)
  | 8, x :: side :: l1 :: l0 :: _ =>
    match object 2 x, flag side with
    | none, _ => .error .noSuchObject
    | some _, none => .error .badArgument
    | some x, some side => .ok (.crossing x side (clamp 0 1000 (be2 l1 l0)), clamp 0 1000 (be2 l1 l0) != be2 l1 l0)
  | _, _ => .error .badArgument

/-- The held flicker level that a role starts with: a FLICKER channel's min, else 0 (R62, R65; log 16, DEDUCED). -/
def Role.heldStart : Role → Nat
  | .flicker min _ _ => min
  | _ => 0

/-- LIGHT_CONFIG performed (R62): the whole record is replaced but for the last computed levels and the output. -/
def performLightConfig (p : List Byte) (s : State) : Performed :=
  match p with
  | ch :: role :: group :: response :: svc :: params =>
    if params.length ≠ 10 then refuse .badLength s
    else
      match object 128 ch with
      | none => refuse .noSuchObject s
      | some ch =>
        if 8 < role.toNat then refuse .badArgument s
        else
          match objectOrNone 16 group with
          | none => refuse .noSuchObject s
          | some group =>
            match responseOf response, flag svc with
            | some response, some svc =>
              match roleOf role params with
              | .error r => refuse r s
              | .ok (role, adjusted) =>
                let c :=
                  { s.lighting.channels[ch] with
                    role := role, group := group, response := response, service := svc, fade := Fade.cancel 0,
                    switching := .off, remaining := 0, position := 0, held := role.heldStart }
                performed adjusted { s with lighting := { s.lighting with channels := put s.lighting.channels ch c } }
            | _, _ => refuse .badArgument s
  | _ => refuse .badLength s

/-- LIGHT_SET performed (R47). -/
def performLightSet (p : List Byte) (s : State) : Performed :=
  match p with
  | [ch, l1, l0, f1, f0] =>
    match object 128 ch with
    | none => refuse .noSuchObject s
    | some ch =>
      let c := s.lighting.channels[ch]
      if c.role ≠ .fixed then refuse .stateConflict s
      else
        let level := clamp 0 1000 (be2 l1 l0)
        performed (level != be2 l1 l0)
          { s with
            lighting :=
              { s.lighting with channels := put s.lighting.channels ch { c with fade := c.fade.begin level (be2 f1 f0) } } }
  | _ => refuse .badLength s

/-- GROUP_SET performed (R63). -/
def performGroupSet (p : List Byte) (s : State) : Performed :=
  match p with
  | [g, l1, l0, f1, f0] =>
    match object 16 g with
    | none => refuse .noSuchObject s
    | some g =>
      let scale := clamp 0 1000 (be2 l1 l0)
      performed (scale != be2 l1 l0)
        { s with
          lighting :=
            { s.lighting with groups := put s.lighting.groups g (s.lighting.groups[g].begin scale (be2 f1 f0)) } }
  | _ => refuse .badLength s

/-- The ten bytes of role parameters as LIGHT_CONFIG lays them out (section 11.2). -/
def Role.params : Role → List Byte
  | .off => unused 10
  | .fixed => unused 10
  | .daylight gain invert => padTo 10 (out2 gain ++ outFlag invert)
  | .night onLevel mode onBelow offAbove stagger warmMs =>
    out2 onLevel ++ out1 mode.code ++ out2 onBelow ++ out2 offAbove ++ out1 stagger ++ out2 warmMs
  | .flicker min max period => padTo 10 (out2 min ++ out2 max ++ out1 period)
  | .blink level lit dark => padTo 10 (out2 level ++ out2 lit ++ out2 dark)
  | .breathe min max period => padTo 10 (out2 min ++ out2 max ++ out2 period)
  | .signal b a level => padTo 10 (out1 b.val ++ out1 a.code ++ out2 level)
  | .crossing c side level => padTo 10 (out1 c.val ++ outFlag side ++ out2 level)

/-- A fade record in a reply: start, end, N and k. -/
def Fade.bytes (f : Fade) : List Byte := out2 f.start ++ out2 f.stop ++ out2 f.total ++ out2 f.elapsed

/-- A chain channel lies within the lamp chain's configured modules (4, section 4.2). -/
def withinModules (number modules : Nat) : Bool := decide (number < 32 + 8 * modules)

/-- LIGHT_QUERY performed (R64). -/
def performLightQuery (p : List Byte) (s : State) : Performed :=
  match p with
  | [selector, number] =>
    match selector.toNat with
    | 0 =>
      match object 128 number with
      | none => refuse .noSuchObject s
      | some ch =>
        let c := s.lighting.channels[ch]
        report
          (out1 c.role.code ++ c.role.params ++ outObject c.group ++ out1 c.response.code ++ outFlag c.service ++
            c.fade.bytes ++ out1 c.switching.code ++ out2 c.remaining ++ out3 c.position ++ out2 c.held ++ out2 c.base ++
            out2 c.scaled ++ out2 c.level ++ out2 c.output ++
            (if ch.val < 32 then unused 1 else outFlag (withinModules ch.val s.chain.settings.modules)) ++
            out2 s.lighting.lfsr.toNat ++ out1 s.lighting.flash) s
    | 1 =>
      match object 16 number with
      | none => refuse .noSuchObject s
      | some g =>
        report
          (out2 s.lighting.groups[g].output ++ s.lighting.groups[g].bytes ++
            out1 (s.lighting.channels.toList.filter (fun c => c.group == some g)).length ++ out2 s.lighting.lfsr.toNat ++
            out1 s.lighting.flash) s
    | _ => refuse .badArgument s
  | _ => refuse .badLength s

/-- A channel after SCENE_RESET (R65). -/
def Channel.sceneReset (c : Channel) : Channel :=
  { c with
    fade := Fade.cancel 0, switching := .off, remaining := 0, position := 0,
    held := match c.role with | .flicker min _ _ => min | _ => c.held }

/-- The lighting engine after SCENE_RESET (R65). -/
def Lighting.sceneReset (l : Lighting) : Lighting :=
  { l with
    channels := mapTable (fun _ c => c.sceneReset) l.channels
    groups := mapTable (fun _ _ => Fade.cancel 1000) l.groups
    flash := 0 }

/-! ## Meanings -/

/-- LIGHT_CONFIG (R62). -/
def execLightConfig (tag : Byte) (payload : List Byte) (s : State) : Host.Outcome State Fault Refusal :=
  hostRequest 0x20#8 tag payload (performLightConfig payload) s

/-- LIGHT_SET (R47). -/
def execLightSet (tag : Byte) (payload : List Byte) (s : State) : Host.Outcome State Fault Refusal :=
  hostRequest 0x21#8 tag payload (performLightSet payload) s

/-- GROUP_SET (R63). -/
def execGroupSet (tag : Byte) (payload : List Byte) (s : State) : Host.Outcome State Fault Refusal :=
  hostRequest 0x22#8 tag payload (performGroupSet payload) s

/-- LIGHT_QUERY (R64). -/
def execLightQuery (tag : Byte) (payload : List Byte) (s : State) : Host.Outcome State Fault Refusal :=
  hostRequest 0x23#8 tag payload (performLightQuery payload) s

end Sys2Proof.Machine
end

