-- ==== Sys2Proof/Machine/Frame.lean ====
section
/-! DEFINITION. The lighting frame (R42, R43), which reads the other units, writes the outputs and the frame buffer and ends at the
lamp chain (R67); and the two steps that are lighting frames at which a count runs out (R44, R50). -/

namespace Sys2Proof.Machine

/-- Steps 1 and 2 of a lighting frame: the other units as their owners hold them, and the groups' fades advanced (R42). -/
def State.outside (s : State) : Outside :=
  { level := s.clock.level, phase := s.clock.phase, aspects := Vector.ofFn fun b => s.aspect b,
    crossings := Vector.ofFn fun c => s.crossings[c].state, normal := s.isNormal, flash := s.lighting.flash,
    groups := mapTable (fun _ g => g.advance) s.lighting.groups }

/-- The frame buffer that the channels' outputs give: the chain bytes of channels 32 to 127 (R61). -/
def bufferOf (channels : Vector Channel 128) : Vector Byte 96 :=
  Vector.ofFn fun (i : Fin 96) => BitVec.ofNat 8 (channels[32 + i.val]'(by omega)).output

/-- The flash position after a frame (R56). -/
def nextFlash (flash : Nat) : Nat := if flash < 99 then flash + 1 else 0

/-- Step 3 of a lighting frame: every channel worked in ascending number, with the LFSR passed on from draw to draw (R42, R58). -/
def State.channelWork (s : State) : Vector Channel 128 × Lfsr :=
  accumTable (channelFrame s.outside) s.lighting.channels s.lighting.lfsr

/-- The lighting frame (R42). -/
def State.lightingFrame (s : State) : State :=
  let w := s.channelWork
  { s with
    lighting := { channels := w.1, groups := s.outside.groups, lfsr := w.2, flash := nextFlash s.lighting.flash }
    chain := { s.chain with buffer := bufferOf w.1 }.frameEnd }

/-- A channel's record replaced. -/
def State.setChannel (s : State) (c : Fin 128) (x : Channel) : State :=
  { s with lighting := { s.lighting with channels := put s.lighting.channels c x } }

/-- A running fade one frame before its end; one that has ended stays (R44). -/
def Fade.nearEnd (f : Fade) : Fade := if f.elapsed < f.total then { f with elapsed := f.total - 1 } else f

/-- A fade record named by a FADE_END. -/
def State.fadeAt (s : State) (f : FadeRef) : Fade :=
  match f with
  | .channel c => s.lighting.channels[c].fade
  | .group g => s.lighting.groups[g]

/-- The state with the named fade one frame before its end. -/
def State.withFadeNearEnd (s : State) (f : FadeRef) : State :=
  match f with
  | .channel c => s.setChannel c { s.lighting.channels[c] with fade := s.lighting.channels[c].fade.nearEnd }
  | .group g => { s with lighting := { s.lighting with groups := put s.lighting.groups g s.lighting.groups[g].nearEnd } }

/-- A NIGHT channel waits for its stagger to run out (R50). -/
def Channel.pendingSwitch (c : Channel) : Bool :=
  (match c.role with | .night .. => true | _ => false) && (c.switching == .pendingOn || c.switching == .pendingOff)

/-! ## Meanings -/

/-- LIGHTING_FRAME (R42), with the level of CHAIN_BUSY that a transfer's start finds (log 13, DESIGN CHOICE). -/
def execLightingFrame (busy : Bool) (s : State) : Host.Outcome State Fault Refusal :=
  .next (s.withBusy busy).lightingFrame

/-- NIGHT_STAGGER_EXPIRY (R50, log 4, DESIGN CHOICE): the lighting frame at which the remaining count of a pending NIGHT channel reaches 0. -/
def execNightStaggerExpiry (c : Fin 128) (s : State) : Host.Outcome State Fault Refusal :=
  if s.lighting.channels[c].pendingSwitch then
    .next (s.setChannel c { s.lighting.channels[c] with remaining := 1 }).lightingFrame
  else .next s

/-- FADE_END (R44, log 4, DESIGN CHOICE): the lighting frame at which the elapsed count of a running fade reaches N. -/
def execFadeEnd (f : FadeRef) (s : State) : Host.Outcome State Fault Refusal :=
  if (s.fadeAt f).elapsed < (s.fadeAt f).total then .next (s.withFadeNearEnd f).lightingFrame else .next s

end Sys2Proof.Machine
end

