-- ==== Sys2Proof/Machine/Trains.lean ====
section
/-! DEFINITION. The train requests (R128 to R133, R147), the speed ramp (R126) and the ramp interval (R127). -/

namespace Sys2Proof.Machine

/-! ## The speed ramp -/

/-- One ramp interval's move of a train's step toward a target (R126). Step 3 moves as long as 50 units are left and the target is
not reached, which is the smaller of the whole steps in the accumulator and the distance. -/
def Train.rampTo (x : Train) (target : Nat) : Train :=
  if x.step = target then { x with ramp := 0 }
  else
    let up := decide (x.step < target)
    let acc := x.ramp + (if up then x.accel else x.decel)
    let distance := if up then target - x.step else x.step - target
    let moves := min (acc / 50) distance
    { x with
      step := if up then x.step + moves else x.step - moves
      ramp := if moves = distance then 0 else acc - 50 * moves }

/-- Step 2 of the ramp interval: what a train at step 0 does (R127). -/
def State.rampStops (s : State) (t : Fin 8) : State :=
  let x := s.trains[t]
  if x.step = 0 ∧ (x.stopPending ∨ (x.state = .approach ∧ x.phase = .braking)) then s.standStill t else s

/-- Step 4 of the ramp interval: the approach timer (R127). -/
def State.rampApproach (s : State) (t : Fin 8) : State :=
  let x := s.trains[t]
  if x.state = .approach ∧ x.phase = .timing then
    if x.approachMs ≤ 20 then s.setTrain t { x with phase := .braking, approachMs := 0 }
    else s.setTrain t { x with approachMs := x.approachMs - 20 }
  else s

/-- The transit timeout that a train's progress timer is held against, in ms: its head block's (R127). -/
def State.transitMs (s : State) (t : Fin 8) : Nat :=
  match s.trains[t].head with
  | some h => s.blocks[h].transitS * 1000
  | none => 0

/-- Steps 3 and 4 of the ramp interval: the progress timer, which may make the train LOST, and the approach timer (R127). -/
def State.rampTimers (s : State) (t : Fin 8) : State :=
  let x := s.trains[t]
  if x.step = 0 then s.rampApproach t
  else
    let s := s.setTrain t { x with progressMs := x.progressMs + 20 }
    if s.transitMs t ≤ x.progressMs + 20 then s.lose t .timeout else s.rampApproach t

/-- The ramp interval of one train that is not FREE, LOST or FAULT (R127). -/
def State.rampTrain (s : State) (t : Fin 8) : State :=
  if s.trains[t].state.active then
    let s := s.setTrain t (s.trains[t].rampTo (s.target t))
    (s.rampStops t).rampTimers t
  else s

/-- A train that stood in a waiting list has left it by becoming LOST, so that a grant pass follows (R138, R144). -/
def leftList (before after : State) : Bool :=
  (List.finRange 8).any fun t => before.trains[t].waitingFor.isSome && after.trains[t].waitingFor.isNone

/-- The ramp interval: in NORMAL every active train on its own (R127), in ascending number, an order that the spec does not give (log
20, DESIGN CHOICE). A train that becomes LOST leaves any waiting list, and a grant pass follows (R138): the model takes the whole
interval for the event, and makes one pass after all its trains (log 35, DESIGN CHOICE). -/
def State.rampInterval (s : State) : State :=
  if s.isNormal then
    let after := (List.finRange 8).foldl State.rampTrain s
    let passed := if leftList s after then after.grantPass else after
    { passed with freeCount := passed.freeCount + 1 }
  else s

/-- While the service state leaves NORMAL every active train takes step 0 and accumulator 0 (R145). -/
def Train.freeze (x : Train) : Train := if x.state.active then x.halt else x

/-! ## Requests -/

/-- TRAIN_PLACE performed (R128, R155). -/
def performTrainPlace (p : List Byte) (s : State) : Performed :=
  match p with
  | [t, b, pol, accel, decel, k1, k0] =>
    match object 8 t with
    | none => refuse .noSuchObject s
    | some t =>
      if s.trains[t].state ≠ .free then refuse .stateConflict s
      else
        match object 16 b with
        | none => refuse .noSuchObject s
        | some b =>
          if !s.blocks[b].configured then refuse .noSuchObject s
          else
            match polarityOf pol with
            | none => refuse .badArgument s
            | some pol =>
              if s.blocks[b].reservation ≠ .free then refuse .stateConflict s
              else if (s.crossingOf b).isSome then refuse .stateConflict s
              else
                let a := clamp 1 255 accel.toNat
                let d := clamp 1 255 decel.toNat
                let k := clamp 0 500 (be2 k1 k0)
                performed (a != accel.toNat || d != decel.toNat || k != be2 k1 k0)
                  ((s.setBlock b
                      { s.blocks[b] with reservation := .reserved, holder := some t, grant := none, polarity := pol }).setTrain t
                    { Train.reset with state := .stopped, head := some b, accel := a, decel := d, kick := k })
  | _ => refuse .badLength s

/-- A train's blocks are released in the order tail, head, next, the train leaves any waiting list, and its record takes its FREE
values (R129). -/
def State.removeTrain (s : State) (t : Fin 8) : State :=
  let x := s.trains[t]
  ((((s.releaseIf x.tail).releaseIf x.head).releaseIf x.next).leaveList t).setTrain t Train.reset

/-- TRAIN_REMOVE performed (R129); a grant pass follows. -/
def performTrainRemove (p : List Byte) (s : State) : Performed :=
  match p with
  | [t] =>
    match object 8 t with
    | none => refuse .noSuchObject s
    | some t => if s.trains[t].state = .free then performed false s else performed false (s.removeTrain t).grantPass
  | _ => refuse .badLength s

/-- Every consecutive pair of a list of blocks has an entry in the path table (R130, check 6). -/
def State.pathsExist (s : State) : List (Fin 16) → Bool
  | a :: b :: rest => (s.pathFrom a b).isSome && s.pathsExist (b :: rest)
  | _ => true

/-- Every byte names an object (R130, check 3). -/
def objects (n : Nat) : List Byte → Option (List (Fin n))
  | [] => some []
  | b :: rest =>
    match object n b, objects n rest with
    | some x, some xs => some (x :: xs)
    | _, _ => none

/-- A train whose route has just been replaced, in RUNNING or APPROACH, asks for a block it does not yet have; a RUNNING train
without a RESERVED next block then enters APPROACH (R131, R142). -/
def State.routeMoving (s : State) (t : Fin 8) : State :=
  let s := if s.trains[t].next.isNone then s.askNext t else s
  if s.trains[t].state = .running ∧ s.hasReservedNext t = false then s.enterApproach t else s

/-- The effect of a new route by the train's state (R131). -/
def State.routeTrain (s : State) (t : Fin 8) (route : List (Fin 16)) (speed : Nat) : State :=
  let s := s.leaveList t
  let s := s.setTrain t { s.trains[t] with stopPending := false, route := route, speed := speed }
  let x := s.trains[t]
  match x.state with
  | .stopped => if route.isEmpty then s else (s.setTrain t { x with state := .waiting }).askNext t
  | .waiting =>
    if route.isEmpty then (s.setTrain t { x with state := .stopped }).send (.train t (.routeDone x.head))
    else if x.next.isNone then s.askNext t
    else s
  | .running => s.routeMoving t
  | .approach => s.routeMoving t
  | _ => s

/-- The checks 3 to 6 of TRAIN_ROUTE and its performance, with the removal from a waiting list starting a grant pass at the end
(R130, R131). -/
def routeWith (t : Fin 8) (speed : Byte) (blocks : List Byte) (s : State) : Performed :=
  match objects 16 blocks with
  | none => refuse .noSuchObject s
  | some route =>
    let x := s.trains[t]
    if x.state = .lost ∨ x.state = .fault then refuse .stateConflict s
    else if x.next.isSome ∧ route.head? ≠ x.next then refuse .stateConflict s
    else if !s.pathsExist (x.head.toList ++ route) then refuse .noPath s
    else
      let v := clamp 0 127 speed.toNat
      let after := s.routeTrain t route v
      performed (v != speed.toNat) (if x.waitingFor.isSome then after.grantPass else after)

/-- TRAIN_ROUTE performed (R130, R131): the train stands in the upper 4 bits of the first byte and the block count in the lower
4 (section 11.2). -/
def performTrainRoute (p : List Byte) (s : State) : Performed :=
  match p with
  | b :: speed :: blocks =>
    if blocks.length ≠ b.toNat % 16 then refuse .badLength s
    else if h : b.toNat / 16 < 8 then
      let t : Fin 8 := ⟨b.toNat / 16, h⟩
      if s.trains[t].state = .free then refuse .noSuchObject s
      else if 12 < blocks.length then refuse .badArgument s
      else routeWith t speed blocks s
    else refuse .noSuchObject s
  | _ => refuse .badLength s

/-- TRAIN_SPEED performed (R132). -/
def performTrainSpeed (p : List Byte) (s : State) : Performed :=
  match p with
  | [t, speed] =>
    match object 8 t with
    | none => refuse .noSuchObject s
    | some t =>
      if s.trains[t].state = .free then refuse .noSuchObject s
      else
        let v := clamp 0 127 speed.toNat
        performed (v != speed.toNat) (s.setTrain t { s.trains[t] with speed := v })
  | _ => refuse .badLength s

/-- A driving train is stopped by its TRAIN_STOP (R133, steps 1 to 6). -/
def State.stopTrain (s : State) (t : Fin 8) (emergency : Bool) : State :=
  let s := s.setTrain t { s.trains[t] with route := [] }
  let s := (s.releaseIf s.trains[t].next).leaveList t
  let x : Train := s.trains[t].quitApproach
  let x : Train := if emergency then x.halt else { x with stopPending := true }
  if x.step = 0 then
    (s.setTrain t { x with state := .stopped, stopPending := false }).send (.train t (.stopped x.head))
  else s.setTrain t x

/-- TRAIN_STOP performed, its checks in the order of R133 (R182): a FREE train, the mode, a train in LOST or FAULT. A grant pass
follows. -/
def performTrainStop (p : List Byte) (s : State) : Performed :=
  match p with
  | [t, mode] =>
    match object 8 t with
    | none => refuse .noSuchObject s
    | some t =>
      if s.trains[t].state = .free then refuse .noSuchObject s
      else if 1 < mode.toNat then refuse .badArgument s
      else
        match s.trains[t].state with
        | .lost => refuse .stateConflict s
        | .fault => refuse .stateConflict s
        | .stopped => performed false s
        | _ => performed false (s.stopTrain t (mode.toNat == 1)).grantPass
  | _ => refuse .badLength s

/-- A block of a train in TRAIN_QUERY: block, reservation, occupancy, or none (R147). -/
def State.heldReport (s : State) (b : Option (Fin 16)) : List Byte :=
  match b with
  | some b => out1 b.val ++ out1 s.blocks[b].reservation.code ++ outFlag s.blocks[b].occupied
  | none => unused 3

/-- The train is in gap (R140). -/
def State.inGap (s : State) (t : Fin 8) : Bool := s.headIsClear t && s.trains[t].tail.isNone && s.hasReservedNext t

/-- TRAIN_QUERY performed (R147). -/
def performTrainQuery (p : List Byte) (s : State) : Performed :=
  match p with
  | [t] =>
    match object 8 t with
    | none => refuse .noSuchObject s
    | some t =>
      let x := s.trains[t]
      report
        (out1 x.state.code ++ out1 x.cause.code ++ s.heldReport x.head ++ s.heldReport x.tail ++ s.heldReport x.next ++
          outFlag (s.inGap t) ++ out1 x.route.length ++ padTo 12 (x.route.flatMap fun b => out1 b.val) ++ out1 x.speed ++
          out1 (s.target t) ++ out1 x.step ++ out1 x.accel ++ out1 x.decel ++ out2 x.kick ++ out2 x.ramp ++
          outFlag x.stopPending ++ out1 x.phase.code ++ out2 x.approachMs ++ out3 x.progressMs ++
          (match x.head with | some h => out1 s.blocks[h].transitS | none => unused 1) ++ outObject x.waitingFor ++
          (match x.waitingFor with | some b => out1 (s.blocks[b].waiting.idxOf t) | none => unused 1)) s
  | _ => refuse .badLength s

/-! ## Meanings -/

/-- TRAIN_PLACE (R128). -/
def execTrainPlace (tag : Byte) (payload : List Byte) (s : State) : Host.Outcome State Fault Refusal :=
  hostRequest 0x48#8 tag payload (performTrainPlace payload) s

/-- TRAIN_REMOVE (R129). -/
def execTrainRemove (tag : Byte) (payload : List Byte) (s : State) : Host.Outcome State Fault Refusal :=
  hostRequest 0x49#8 tag payload (performTrainRemove payload) s

/-- TRAIN_ROUTE (R131). -/
def execTrainRoute (tag : Byte) (payload : List Byte) (s : State) : Host.Outcome State Fault Refusal :=
  hostRequest 0x4A#8 tag payload (performTrainRoute payload) s

/-- TRAIN_SPEED (R132). -/
def execTrainSpeed (tag : Byte) (payload : List Byte) (s : State) : Host.Outcome State Fault Refusal :=
  hostRequest 0x4B#8 tag payload (performTrainSpeed payload) s

/-- TRAIN_STOP (R133). -/
def execTrainStop (tag : Byte) (payload : List Byte) (s : State) : Host.Outcome State Fault Refusal :=
  hostRequest 0x4C#8 tag payload (performTrainStop payload) s

/-- TRAIN_QUERY (R147). -/
def execTrainQuery (tag : Byte) (payload : List Byte) (s : State) : Host.Outcome State Fault Refusal :=
  hostRequest 0x4D#8 tag payload (performTrainQuery payload) s

/-- RAMP_INTERVAL (R127). -/
def execRampInterval (s : State) : Host.Outcome State Fault Refusal := .next s.rampInterval

/-- A train's progress timer counts in the next ramp interval: the train is active and its step is above 0 after the interval's ramp
(R127). -/
def State.progresses (s : State) (t : Fin 8) : Bool :=
  s.trains[t].state.active && s.isNormal && (s.trains[t].rampTo (s.target t)).step != 0

/-- PROGRESS_TIMEOUT (R127, log 4, DESIGN CHOICE): the ramp interval at which the progress timer of a train reaches its head block's
transit timeout; nothing changes where that timer does not count. -/
def execProgressTimeout (t : Fin 8) (s : State) : Host.Outcome State Fault Refusal :=
  if s.progresses t then
    .next (s.setTrain t { s.trains[t] with progressMs := s.transitMs t - 20 }).rampInterval
  else .next s

/-- APPROACH_TIMER_EXPIRY (R127, log 4, DESIGN CHOICE): the ramp interval at which the approach timer of a train in phase TIMING reaches 0. -/
def execApproachTimerExpiry (t : Fin 8) (s : State) : Host.Outcome State Fault Refusal :=
  if s.trains[t].state == .approach && s.trains[t].phase == .timing && s.isNormal then
    .next (s.setTrain t { s.trains[t] with approachMs := 20 }).rampInterval
  else .next s

end Sys2Proof.Machine
end

