-- ==== Sys2Proof/Machine/Inputs.lean ====
section
/-! DEFINITION. The input unit (chapter 9): debounce (R160), firing and delivery (R161, R162), the door and the service state (R165
to R168), and their requests. -/

namespace Sys2Proof.Machine

/-! ## Firing -/

/-- An input is armed while its trigger is not NONE and its rearm timer is stopped (R159). -/
def Input.armed (x : Input) : Bool := x.trigger != .never && !x.rearmRunning

/-- A debounced edge to this level meets the trigger (R161). -/
def Trigger.meets : Trigger → Bool → Bool
  | .never, _ => false
  | .rising, level => level
  | .falling, level => !level
  | .change, _ => true
  | .high, level => level
  | .low, level => !level

/-- A trigger fires again at the expiry of the rearm timer while the level lasts (R161). -/
def Trigger.isLevel : Trigger → Bool
  | .high => true
  | .low => true
  | _ => false

/-- A firing starts the rearm timer where the rearm interval is above 0 (R161). -/
def Input.startRearm (x : Input) : Input :=
  if x.rearmS = 0 then x else { x with rearmRunning := true, rearmUs := x.rearmS * 1000000 }

/-- The binding of a GENERAL input acts (R162): the action is offered, then INPUT_EVENT is sent where the notice flag is set. -/
def State.bindingActs (s : State) (i : Fin 16) : State :=
  let x := s.inputs[i]
  let r : State × Disposition :=
    match x.action with
    | none => (s, .unbound)
    | some a =>
      if s.isNormal then
        let o := s.offerAction ⟨.input i, a⟩
        (o.1, if o.2 then .queued else .discarded)
      else (s, .heldOut)
  if x.notice then r.1.send (.input i x.level r.2) else r.1

/-- A firing is delivered according to the use that the input holds (R162). -/
def State.deliver (s : State) (i : Fin 16) : State :=
  match s.inputs[i].use with
  | .general => s.bindingActs i
  | .stopMarker b => s.markerFires b
  | .index d => s.indexFires d
  | .endOpen d => s.endFires d .opened
  | .endClosed d => s.endFires d .closed

/-- An input fires: its rearm timer starts and the firing is delivered within the event (R161, R162). -/
def State.fire (s : State) (i : Fin 16) : State := (s.setInput i s.inputs[i].startRearm).deliver i

/-! ## Debounce -/

/-- The debounce of an input completes: the debounced level takes the pin's level, and the edge fires the input where its trigger is
met and it is armed (R160, R161). -/
def State.senseEdge (s : State) (i : Fin 16) : State :=
  let x := { s.inputs[i] with level := s.inputs[i].pin, debounceRunning := false, debounceUs := 0 }
  let s := s.setInput i x
  if x.trigger.meets x.level && x.armed then s.fire i else s

/-- A SENSE pin takes a level (R160). -/
def State.sensePin (s : State) (i : Fin 16) (high : Bool) : State :=
  let x := s.inputs[i]
  if x.pin = high then s
  else if high = x.level then s.setInput i { x with pin := high, debounceRunning := false, debounceUs := 0 }
  else
    let s := s.setInput i { x with pin := high, debounceRunning := true, debounceUs := 0 }
    if x.debounceMs = 0 then s.senseEdge i else s

/-- The rearm timer of an input expires: the input is armed, and a HIGH or LOW input still at its active level fires (R161). -/
def State.rearmExpires (s : State) (i : Fin 16) : State :=
  let x := { s.inputs[i] with rearmRunning := false, rearmUs := 0 }
  let s := s.setInput i x
  if x.trigger.isLevel && x.active then s.fire i else s

/-! ## The service state -/

/-- The trains at a leaving of NORMAL (R145). -/
def State.freezeTrains (s : State) : State := { s with trains := mapTable (fun _ x => x.freeze) s.trains }

/-- What the other units do as the service state leaves NORMAL (R99, R145). The order of the units is not fixed (R168, log 20, DESIGN CHOICE). -/
def State.leaveNormal (s : State) : State := { s with drives := mapTable (fun _ x => x.freeze) s.drives }.freezeTrains

/-- What the other units do as the service state returns to NORMAL (R99, R115; log 20, DESIGN CHOICE). -/
def State.returnNormal (s : State) : State := { s with drives := mapTable (fun _ x => x.thaw) s.drives }.cduTest

/-- A change of the service state: its items, its SERVICE_EVENT notice, and the other units (R166 to R168). The resume timer runs
exactly in RESUME_WAIT (R165), and keeps no remaining time where it stops (log 33, DEDUCED). -/
def State.changeService (s : State) (state : ServiceState) (cause : ServiceCause) : State :=
  let before := s.service.state
  let waits := state == .resumeWait
  let s :=
    { s with
      service :=
        { s.service with
          state := state, cause := cause, resumeRunning := waits,
          resumeUs := if waits then s.service.autoResumeS * 1000000 else 0 } }.send (.service state cause before)
  if before = .normal ∧ state ≠ .normal then s.leaveNormal
  else if before ≠ .normal ∧ state = .normal then s.returnNormal
  else s

/-- The door opens (R166). -/
def State.doorOpens (s : State) : State :=
  if s.service.state = .service ∧ s.service.cause = .door then s else s.changeService .service .door

/-- The door closes (R166). -/
def State.doorCloses (s : State) : State :=
  if s.service.state = .service ∧ s.service.cause = .door ∧ s.service.autoResumeS ≠ 0 then s.changeService .resumeWait .door
  else s

/-- The door's debounce completes (R165, R166). -/
def State.doorEdge (s : State) : State :=
  let opened := s.door.pin
  let s := { s with door := { s.door with level := opened, debounceRunning := false, debounceUs := 0 } }
  if opened then s.doorOpens else s.doorCloses

/-- The DOOR pin takes a level (R160, R165). -/
def Door.take (x : Door) (high : Bool) : Door :=
  if x.pin = high then x
  else if high = x.level then { x with pin := high, debounceRunning := false, debounceUs := 0 }
  else { x with pin := high, debounceRunning := true, debounceUs := 0 }

/-- SERVICE performed (R167). -/
def performService (p : List Byte) (s : State) : Performed :=
  match p with
  | [] => if s.service.state = .service then performed false s else performed false (s.changeService .service .request)
  | _ => refuse .badLength s

/-- RESUME performed (R167). -/
def performResume (p : List Byte) (s : State) : Performed :=
  match p with
  | [] =>
    if s.door.level then refuse .stateConflict s
    else if s.isNormal then performed false s
    else performed false (s.changeService .normal .clear)
  | _ => refuse .badLength s

/-- DOOR_CONFIG performed (R167). -/
def performDoorConfig (p : List Byte) (s : State) : Performed :=
  match p with
  | [a] =>
    let seconds := clamp 0 60 a.toNat
    performed (seconds != a.toNat) { s with service := { s.service with autoResumeS := seconds } }
  | _ => refuse .badLength s

/-! ## Configuration and binding -/

/-- A use and its object out of INPUT_CONFIG, or the result that refuses them (R163, checks 3 and 4). -/
def useOf (use object_ : Byte) : Except Result Use :=
  match use.toNat with
  | 0 => .ok .general
  | 1 => match object 16 object_ with | some b => .ok (.stopMarker b) | none => .error .noSuchObject
  | 2 => match object 4 object_ with | some d => .ok (.index d) | none => .error .noSuchObject
  | 3 => match object 4 object_ with | some d => .ok (.endOpen d) | none => .error .noSuchObject
  | 4 => match object 4 object_ with | some d => .ok (.endClosed d) | none => .error .noSuchObject
  | _ => .error .badArgument

/-- An input gives up a use that moves to another (R163, step 1). -/
def Input.yield (x : Input) (u : Use) : Input := if u ≠ .general ∧ x.use = u then { x with use := .general } else x

/-- An input's record after INPUT_CONFIG (R163, steps 2 to 4). -/
def Input.configure (x : Input) (trigger : Trigger) (debounceMs : Nat) (u : Use) : Input :=
  { x with
    trigger := trigger, debounceMs := debounceMs, use := u, rearmRunning := false, rearmUs := 0
    action := if u = .general then x.action else none
    rearmS := if u = .general then x.rearmS else 0
    notice := if u = .general then x.notice else false }

/-- A running debounce timer is compared with the input's debounce time: at or above it, the debounce completes at once (R160,
R163, step 5). -/
def State.retimeInput (s : State) (i : Fin 16) : State :=
  if s.inputs[i].debounceRunning ∧ s.inputs[i].debounceMs * 1000 ≤ s.inputs[i].debounceUs then s.senseEdge i else s

/-- The performance of INPUT_CONFIG (R163). -/
def State.configureInput (s : State) (i : Fin 16) (trigger : Trigger) (debounceMs : Nat) (u : Use) : State :=
  { s with
    inputs := mapTable (fun j x => if j = i then x.configure trigger debounceMs u else x.yield u) s.inputs }.retimeInput i

/-- INPUT_CONFIG performed (R163); a debounce byte never exceeds 255 ms, so nothing is clamped. -/
def performInputConfig (p : List Byte) (s : State) : Performed :=
  match p with
  | [i, trigger, debounce, use, obj] =>
    match object 16 i with
    | none => refuse .noSuchObject s
    | some i =>
      match triggerOf trigger with
      | none => refuse .badArgument s
      | some trigger =>
        match useOf use obj with
        | .error r => refuse r s
        | .ok u =>
          if u ≠ .general ∧ trigger.activeLevel.isNone then refuse .badArgument s
          else performed false (s.configureInput i trigger debounce.toNat u)
  | _ => refuse .badLength s

/-- INPUT_BIND performed (R164). -/
def performInputBind (p : List Byte) (s : State) : Performed :=
  match p with
  | i :: actionFlag :: rearm :: noticeFlag :: kind :: n :: action =>
    if action.length ≠ n.toNat then refuse .badLength s
    else
      match object 16 i with
      | none => refuse .noSuchObject s
      | some i =>
        if s.inputs[i].use ≠ .general then refuse .stateConflict s
        else
          match flag actionFlag, flag noticeFlag with
          | some bound, some notice =>
            if bound && !storable kind action then refuse .badArgument s
            else
              performed false
                (s.setInput i
                  { s.inputs[i] with
                    action := if bound then some ⟨kind, action⟩ else none
                    rearmS := rearm.toNat, notice := notice, rearmRunning := false, rearmUs := 0 })
          | _, _ => refuse .badArgument s
  | _ => refuse .badLength s

/-- Kind, length and payload of a bound action; unused bytes where none is bound (R169, log 17, DEDUCED). -/
def actionBytes : Option StoredAction → List Byte
  | some a => [a.kind] ++ out1 a.payload.length ++ padTo 12 a.payload
  | none => unused 14

/-- INPUT_QUERY performed (R169). -/
def performInputQuery (p : List Byte) (s : State) : Performed :=
  match p with
  | [i] =>
    match object 16 i with
    | none => refuse .noSuchObject s
    | some i =>
      let x := s.inputs[i]
      report
        (out1 x.trigger.code ++ out1 x.debounceMs ++ out1 x.use.code ++ x.use.object ++ outFlag x.pin ++ outFlag x.level ++
          outFlag x.active ++ outFlag x.armed ++ out3 (x.rearmUs / 1000) ++ outFlag x.action.isSome ++
          actionBytes x.action ++
          out1 x.rearmS ++ outFlag x.notice ++ out1 s.service.state.code ++ out1 s.service.cause.code ++ outFlag s.door.level ++
          out1 s.service.autoResumeS ++ out2 (s.service.resumeUs / 1000)) s
  | _ => refuse .badLength s

/-! ## Meanings -/

/-- SERVICE (R167). -/
def execService (tag : Byte) (payload : List Byte) (s : State) : Host.Outcome State Fault Refusal :=
  hostRequest 0x05#8 tag payload (performService payload) s

/-- RESUME (R167). -/
def execResume (tag : Byte) (payload : List Byte) (s : State) : Host.Outcome State Fault Refusal :=
  hostRequest 0x06#8 tag payload (performResume payload) s

/-- INPUT_CONFIG (R163). -/
def execInputConfig (tag : Byte) (payload : List Byte) (s : State) : Host.Outcome State Fault Refusal :=
  hostRequest 0x58#8 tag payload (performInputConfig payload) s

/-- INPUT_BIND (R164). -/
def execInputBind (tag : Byte) (payload : List Byte) (s : State) : Host.Outcome State Fault Refusal :=
  hostRequest 0x59#8 tag payload (performInputBind payload) s

/-- INPUT_QUERY (R169). -/
def execInputQuery (tag : Byte) (payload : List Byte) (s : State) : Host.Outcome State Fault Refusal :=
  hostRequest 0x5A#8 tag payload (performInputQuery payload) s

/-- DOOR_CONFIG (R167). -/
def execDoorConfig (tag : Byte) (payload : List Byte) (s : State) : Host.Outcome State Fault Refusal :=
  hostRequest 0x5B#8 tag payload (performDoorConfig payload) s

/-- SENSE_PIN_CHANGE (R160). -/
def execSensePinChange (i : Fin 16) (high : Bool) (s : State) : Host.Outcome State Fault Refusal := .next (s.sensePin i high)

/-- SENSE_DEBOUNCE_DONE (R160): a running debounce timer reaches the debounce time. -/
def execSenseDebounceDone (i : Fin 16) (s : State) : Host.Outcome State Fault Refusal :=
  if s.inputs[i].debounceRunning then .next (s.senseEdge i) else .next s

/-- REARM_EXPIRY (R161): a running rearm timer expires. -/
def execRearmExpiry (i : Fin 16) (s : State) : Host.Outcome State Fault Refusal :=
  if s.inputs[i].rearmRunning then .next (s.rearmExpires i) else .next s

/-- DOOR_PIN_CHANGE (R165). -/
def execDoorPinChange (high : Bool) (s : State) : Host.Outcome State Fault Refusal := .next { s with door := s.door.take high }

/-- DOOR_DEBOUNCE_DONE (R166): the running 20 ms debounce completes. -/
def execDoorDebounceDone (s : State) : Host.Outcome State Fault Refusal :=
  if s.door.debounceRunning then .next s.doorEdge else .next s

/-- RESUME_TIMER_EXPIRY (R166): the resume timer of RESUME_WAIT expires. -/
def execResumeTimerExpiry (s : State) : Host.Outcome State Fault Refusal :=
  if s.service.state = .resumeWait ∧ s.service.resumeRunning then .next (s.changeService .normal .clear) else .next s

end Sys2Proof.Machine
end

