-- ==== Sys2Proof/Machine/General.lean ====
section
/-! DEFINITION. The general requests (R36, R177 to R179), UNKNOWN_KIND (R174), the power-on reset (R180) and the performance of a
stored action (R35). -/

namespace Sys2Proof.Machine

/-! ## General requests -/

/-- The capacities that PING reports, in the order of R177. -/
def capacities : List Byte := [128#8, 16#8, 12#8, 16#8, 64#8, 16#8, 4#8, 16#8, 48#8, 8#8, 8#8, 2#8, 16#8, 32#8]

/-- PING performed (R177). -/
def performPing (p : List Byte) (s : State) : Performed :=
  match p with
  | [] => report ([0x4C#8, 0x40#8, 1#8] ++ out1 s.link.rate.val ++ capacities) s
  | _ => refuse .badLength s

/-- The five rejection counters at 0 (R178, R180). -/
def Rejections.cleared : Rejections := ⟨0, 0, 0, 0, 0⟩

/-- STATUS performed (R178): the clear flag clears the rejection counters after they are read. -/
def performStatus (p : List Byte) (s : State) : Performed :=
  match p with
  | [b] =>
    match flag b with
    | none => refuse .badArgument s
    | some clear =>
      let r := s.link.rejections
      report
        (out1 s.service.state.code ++ out1 s.service.cause.code ++ out1 s.clock.state.code ++ out1 s.clock.phase.code ++
          out2 s.clock.level ++ out1 s.link.notices.length ++ out1 s.link.lost ++ out2 r.length ++ out2 r.check ++ out2 r.byte ++
          out2 r.gap ++ out2 r.full ++ out1 s.link.slots.length ++ out1 s.dispatcher.actions.length ++ out1 s.chain.state.code)
        (if clear then { s with link := { s.link with rejections := Rejections.cleared } } else s)
  | _ => refuse .badLength s

/-- NOTICE_MASK performed (R177). -/
def performNoticeMask (p : List Byte) (s : State) : Performed :=
  match p with
  | [m] => performed false { s with link := { s.link with mask := m } }
  | _ => refuse .badLength s

/-- SAY performed (R36). -/
def performSay (source : Source) (p : List Byte) (s : State) : Performed :=
  match p with
  | [code] => performed false (s.send (.say code source))
  | _ => refuse .badLength s

/-! ## SCENE_RESET -/

/-- A block after SCENE_RESET (R121, R146). -/
def Block.sceneReset (k : Block) : Block := { k with reservation := .free, holder := none, grant := none, waiting := [] }

/-- A turnout after SCENE_RESET: a pulse in progress runs on (R121). -/
def Turnout.sceneReset (x : Turnout) : Turnout := { x with locks := 0, lockedAt := none, queued := none }

/-- The cue unit, the dispatcher, the lighting engine, the drives and the track at a SCENE_RESET (R38, R65, R100, R121, R146). -/
def State.clearScene (s : State) : State :=
  { s with
    cues := [], due := [], dispatcher := { s.dispatcher with actions := [] }, lighting := s.lighting.sceneReset,
    drives := mapTable (fun _ x => x.sceneReset) s.drives, trains := mapTable (fun _ _ => Train.reset) s.trains,
    blocks := mapTable (fun _ k => k.sceneReset) s.blocks, turnouts := mapTable (fun _ x => x.sceneReset) s.turnouts,
    throwQueue := [] }

/-- SCENE_RESET's effect, the crossings set after the trains are removed (R157, R179). -/
def State.sceneReset (s : State) : State := (List.finRange 2).foldl State.sceneResetCrossing s.clearScene

/-- SCENE_RESET performed (R179). -/
def performSceneReset (p : List Byte) (s : State) : Performed :=
  match p with
  | [] => performed false s.sceneReset
  | _ => refuse .badLength s

/-! ## Power-on -/

/-- The rate code of the straps (R170). -/
def rateOf (rate1 rate0 : Bool) : Fin 4 :=
  match rate1, rate0 with | false, false => 0 | false, true => 1 | true, false => 2 | true, true => 3

/-- The pins as they stand, with these straps (R180). -/
def State.pins (s : State) (rate : Fin 4) : Pins :=
  { rate := rate, door := s.door.pin, chainBusy := s.chain.busyPin, sense := Vector.ofFn fun i => s.inputs[i].pin,
    blockSense := Vector.ofFn fun b => s.blocks[b].detector }

/-! ## Stored actions -/

/-- A stored action performed exactly as a request of its kind (R35); only the kinds of R28 are ever stored. -/
def performStored (e : ActionEntry) (s : State) : Performed :=
  let p := e.action.payload
  match e.action.kind.toNat with
  | 0x21 => performLightSet p s
  | 0x22 => performGroupSet p s
  | 0x32 => performDriveRun p s
  | 0x33 => performDriveStop p s
  | 0x34 => performDriveMove p s
  | 0x4A => performTrainRoute p s
  | 0x4B => performTrainSpeed p s
  | 0x4C => performTrainStop p s
  | 0x44 => performTurnoutSet p s
  | 0x12 => performClockHold p s
  | 0x07 => performSay e.source p s
  | _ => refuse .unknownKind s

/-- What a stored action's result comes to: a result other than OK and ADJUSTED sends ACTION_FAILED (R35). -/
def reportStored (e : ActionEntry) (p : Performed) : State :=
  match p.reply with
  | none => p.state
  | some (result, _) =>
    if result = .ok ∨ result = .adjusted then p.state
    else p.state.send (.actionFailed e.source e.action.kind result)

/-- The dispatcher may take the head of the action queue (R34). -/
def State.canPerform (s : State) : Bool := s.dispatcher.busy.isNone && s.isNormal

/-! ## Meanings -/

/-- POWER_ON_RESET (R180): every unit takes its reset values with the pins as they stand; the queue of commands is not the part's. -/
def execPowerOnReset (rate1 rate0 : Bool) (s : State) : Host.Outcome State Fault Refusal :=
  .next (State.powerOn (s.pins (rateOf rate1 rate0)) s.pending s.freeCount)

/-- PING (R177). -/
def execPing (tag : Byte) (payload : List Byte) (s : State) : Host.Outcome State Fault Refusal :=
  hostRequest 0x01#8 tag payload (performPing payload) s

/-- STATUS (R178). -/
def execStatus (tag : Byte) (payload : List Byte) (s : State) : Host.Outcome State Fault Refusal :=
  hostRequest 0x02#8 tag payload (performStatus payload) s

/-- SCENE_RESET (R179). -/
def execSceneReset (tag : Byte) (payload : List Byte) (s : State) : Host.Outcome State Fault Refusal :=
  hostRequest 0x03#8 tag payload (performSceneReset payload) s

/-- NOTICE_MASK (R177). -/
def execNoticeMask (tag : Byte) (payload : List Byte) (s : State) : Host.Outcome State Fault Refusal :=
  hostRequest 0x04#8 tag payload (performNoticeMask payload) s

/-- SAY (R36). -/
def execSay (tag : Byte) (payload : List Byte) (s : State) : Host.Outcome State Fault Refusal :=
  hostRequest 0x07#8 tag payload (performSay .host payload) s

/-- UNKNOWN_KIND (R174, R182): a frame whose kind is no request kind is answered UNKNOWN_KIND with nothing performed; a kind that is
a request kind is no such command (log 27, DESIGN CHOICE). -/
def execUnknownKind (kind tag : Byte) (payload : List Byte) (s : State) : Host.Outcome State Fault Refusal :=
  if isRequestKind kind then .refused .illFormed else hostRequest kind tag payload (refuse .unknownKind) s

/-- STORED_ACTION_PERFORM (R35). -/
def execStoredActionPerform (s : State) : Host.Outcome State Fault Refusal :=
  match s.dispatcher.actions with
  | [] => .next s
  | e :: rest =>
    if s.canPerform then
      .next (reportStored e (performStored e { s with dispatcher := { s.dispatcher with actions := rest } }))
    else .next s

end Sys2Proof.Machine
end

