-- ==== Sys2Proof/Machine/Receiver.lean ====
section
/-! DEFINITION. The frame assembler with its gap timer (R172, R173) and the end of a transmitted frame (R175). -/

namespace Sys2Proof.Machine

/-! ## Rejections -/

/-- A counter that saturates at 65,535 goes up by one (R172). -/
def countUp (n : Nat) : Nat := min 65535 (n + 1)

def Rejections.addLength (r : Rejections) : Rejections := { r with length := countUp r.length }
def Rejections.addCheck (r : Rejections) : Rejections := { r with check := countUp r.check }
def Rejections.addByte (r : Rejections) : Rejections := { r with byte := countUp r.byte }
def Rejections.addGap (r : Rejections) : Rejections := { r with gap := countUp r.gap }
def Rejections.addFull (r : Rejections) : Rejections := { r with full := countUp r.full }

/-- The assembler hunts again, its buffer abandoned and its gap timer stopped (R172). -/
def Link.hunt (l : Link) : Link := { l with assembler := .hunt, gap := none }

/-- A frame in assembly is rejected with these counters (R172). -/
def Link.reject (l : Link) (r : Rejections) : Link := { l with rejections := r }.hunt

/-- The assembler goes on in a state, its gap timer restarted (R172). -/
def Link.proceed (l : Link) (a : Assembler) : Link := { l with assembler := a, gap := some 0 }

/-- The frame whose bytes from the length on have been stored (chapter 11). -/
def frameOfBody : List Byte → Option Frame
  | _ :: kind :: tag :: payload => some ⟨kind, tag, payload⟩
  | _ => none

/-- A frame whose check byte matches is complete: it is placed in a slot, and the assembler hunts (R172, R173). -/
def Link.complete (l : Link) (bytes : List Byte) : Link :=
  match frameOfBody bytes with
  | some f => (l.receive f).hunt
  | none => l.hunt

/-- A length field is in its range (R172). -/
def lengthFits (data : Byte) : Bool := decide (2 ≤ data.toNat) && decide (data.toNat ≤ 64)

/-- A character on RX worked by the assembler according to its state (R172, R173). -/
def Link.character (l : Link) (data : Byte) (stop : Bool) : Link :=
  match l.assembler with
  | .hunt =>
    if stop && data == 0xA5#8 then
      if l.slots.length < 2 then l.proceed .length
      else { l with rejections := l.rejections.addFull }.proceed .discardLength
    else l
  | .length =>
    if !stop then l.reject l.rejections.addByte
    else if lengthFits data then l.proceed (.body [data] data.toNat)
    else l.reject l.rejections.addLength
  | .body bytes left =>
    if !stop then l.reject l.rejections.addByte
    else if left ≤ 1 then l.proceed (.check (bytes ++ [data]))
    else l.proceed (.body (bytes ++ [data]) (left - 1))
  | .check bytes =>
    if !stop then l.reject l.rejections.addByte
    else if data = crc8 bytes then l.complete bytes
    else l.reject l.rejections.addCheck
  | .discardLength => if lengthFits data then l.proceed (.discardBody (data.toNat + 1)) else l.hunt
  | .discardBody left => if left ≤ 1 then l.hunt else l.proceed (.discardBody (left - 1))

/-- The gap timer expires: a frame in assembly is rejected with GAP, a discard ends without a further count (R172, R173). -/
def Link.gapExpires (l : Link) : Link :=
  match l.assembler with
  | .hunt => l
  | .length => l.reject l.rejections.addGap
  | .body _ _ => l.reject l.rejections.addGap
  | .check _ => l.reject l.rejections.addGap
  | .discardLength => l.hunt
  | .discardBody _ => l.hunt

/-- The last character of the frame on the line has been sent: a reply's slot is free again, and the transmitter chooses (R174,
R175). -/
def Link.sent (l : Link) : Link :=
  match l.transmitter with
  | .idle => l
  | .reply _ => { l with replies := l.replies.tail, transmitter := .idle }.transmit
  | .notice _ _ => { l with transmitter := .idle }.transmit

/-! ## Meanings -/

/-- RX_CHARACTER (R172). -/
def execRxCharacter (data : Byte) (stop : Bool) (s : State) : Host.Outcome State Fault Refusal :=
  .next { s with link := s.link.character data stop }

/-- GAP_TIMEOUT (R172). -/
def execGapTimeout (s : State) : Host.Outcome State Fault Refusal := .next { s with link := s.link.gapExpires }

/-- TRANSMIT_COMPLETE (R175). -/
def execTransmitComplete (s : State) : Host.Outcome State Fault Refusal := .next { s with link := s.link.sent }

end Sys2Proof.Machine
end

