-- ==== Sys2Proof/Machine/Dispatch.lean ====
section
/-! DEFINITION. The one dispatch: every command to its meaning. -/

namespace Sys2Proof.Machine

/-- The effect of a command on everything but the queue of commands. -/
def exec (i : Instr) (s : State) : Host.Outcome State Fault Refusal :=
  match i with
  | .powerOnReset rate1 rate0 => Sys2Proof.Machine.execPowerOnReset rate1 rate0 s
  | .ping tag payload => Sys2Proof.Machine.execPing tag payload s
  | .status tag payload => Sys2Proof.Machine.execStatus tag payload s
  | .sceneReset tag payload => Sys2Proof.Machine.execSceneReset tag payload s
  | .noticeMask tag payload => Sys2Proof.Machine.execNoticeMask tag payload s
  | .service tag payload => Sys2Proof.Machine.execService tag payload s
  | .resume tag payload => Sys2Proof.Machine.execResume tag payload s
  | .say tag payload => Sys2Proof.Machine.execSay tag payload s
  | .clockSet tag payload => Sys2Proof.Machine.execClockSet tag payload s
  | .clockRun tag payload => Sys2Proof.Machine.execClockRun tag payload s
  | .clockHold tag payload => Sys2Proof.Machine.execClockHold tag payload s
  | .clockStop tag payload => Sys2Proof.Machine.execClockStop tag payload s
  | .curveLoad tag payload => Sys2Proof.Machine.execCurveLoad tag payload s
  | .syncMode tag payload => Sys2Proof.Machine.execSyncMode tag payload s
  | .clockMark tag payload => Sys2Proof.Machine.execClockMark tag payload s
  | .phaseConfig tag payload => Sys2Proof.Machine.execPhaseConfig tag payload s
  | .clockQuery tag payload => Sys2Proof.Machine.execClockQuery tag payload s
  | .cueAdd tag payload => Sys2Proof.Machine.execCueAdd tag payload s
  | .cueRemove tag payload => Sys2Proof.Machine.execCueRemove tag payload s
  | .cueEnable tag payload => Sys2Proof.Machine.execCueEnable tag payload s
  | .cueQuery tag payload => Sys2Proof.Machine.execCueQuery tag payload s
  | .lightConfig tag payload => Sys2Proof.Machine.execLightConfig tag payload s
  | .lightSet tag payload => Sys2Proof.Machine.execLightSet tag payload s
  | .groupSet tag payload => Sys2Proof.Machine.execGroupSet tag payload s
  | .lightQuery tag payload => Sys2Proof.Machine.execLightQuery tag payload s
  | .chainConfig tag payload => Sys2Proof.Machine.execChainConfig tag payload s
  | .chainQuery tag payload => Sys2Proof.Machine.execChainQuery tag payload s
  | .driveConfig tag payload => Sys2Proof.Machine.execDriveConfig tag payload s
  | .driveTune tag payload => Sys2Proof.Machine.execDriveTune tag payload s
  | .driveRun tag payload => Sys2Proof.Machine.execDriveRun tag payload s
  | .driveStop tag payload => Sys2Proof.Machine.execDriveStop tag payload s
  | .driveMove tag payload => Sys2Proof.Machine.execDriveMove tag payload s
  | .driveQuery tag payload => Sys2Proof.Machine.execDriveQuery tag payload s
  | .blockConfig tag payload => Sys2Proof.Machine.execBlockConfig tag payload s
  | .pathAdd tag payload => Sys2Proof.Machine.execPathAdd tag payload s
  | .pathClear tag payload => Sys2Proof.Machine.execPathClear tag payload s
  | .turnoutConfig tag payload => Sys2Proof.Machine.execTurnoutConfig tag payload s
  | .turnoutSet tag payload => Sys2Proof.Machine.execTurnoutSet tag payload s
  | .blockQuery tag payload => Sys2Proof.Machine.execBlockQuery tag payload s
  | .turnoutQuery tag payload => Sys2Proof.Machine.execTurnoutQuery tag payload s
  | .cduConfig tag payload => Sys2Proof.Machine.execCduConfig tag payload s
  | .trainPlace tag payload => Sys2Proof.Machine.execTrainPlace tag payload s
  | .trainRemove tag payload => Sys2Proof.Machine.execTrainRemove tag payload s
  | .trainRoute tag payload => Sys2Proof.Machine.execTrainRoute tag payload s
  | .trainSpeed tag payload => Sys2Proof.Machine.execTrainSpeed tag payload s
  | .trainStop tag payload => Sys2Proof.Machine.execTrainStop tag payload s
  | .trainQuery tag payload => Sys2Proof.Machine.execTrainQuery tag payload s
  | .crossingConfig tag payload => Sys2Proof.Machine.execCrossingConfig tag payload s
  | .crossingReset tag payload => Sys2Proof.Machine.execCrossingReset tag payload s
  | .crossingQuery tag payload => Sys2Proof.Machine.execCrossingQuery tag payload s
  | .inputConfig tag payload => Sys2Proof.Machine.execInputConfig tag payload s
  | .inputBind tag payload => Sys2Proof.Machine.execInputBind tag payload s
  | .inputQuery tag payload => Sys2Proof.Machine.execInputQuery tag payload s
  | .doorConfig tag payload => Sys2Proof.Machine.execDoorConfig tag payload s
  | .unknownKind kind tag payload => Sys2Proof.Machine.execUnknownKind kind tag payload s
  | .storedActionPerform => Sys2Proof.Machine.execStoredActionPerform s
  | .rxCharacter data stop => Sys2Proof.Machine.execRxCharacter data stop s
  | .gapTimeout => Sys2Proof.Machine.execGapTimeout s
  | .transmitComplete => Sys2Proof.Machine.execTransmitComplete s
  | .clockStep => Sys2Proof.Machine.execClockStep s
  | .holdEnd => Sys2Proof.Machine.execHoldEnd s
  | .syncLost => Sys2Proof.Machine.execSyncLost s
  | .syncPulseEnd => Sys2Proof.Machine.execSyncPulseEnd s
  | .syncEdge => Sys2Proof.Machine.execSyncEdge s
  | .lightingFrame busy => Sys2Proof.Machine.execLightingFrame busy s
  | .nightStaggerExpiry c => Sys2Proof.Machine.execNightStaggerExpiry c s
  | .fadeEnd f => Sys2Proof.Machine.execFadeEnd f s
  | .chainByteDone returned busy => Sys2Proof.Machine.execChainByteDone returned busy s
  | .byteIntervalEnd busy => Sys2Proof.Machine.execByteIntervalEnd busy s
  | .chainBusyLow => Sys2Proof.Machine.execChainBusyLow s
  | .busyTimeout => Sys2Proof.Machine.execBusyTimeout s
  | .chainLatch => Sys2Proof.Machine.execChainLatch s
  | .chainRetryExpiry busy => Sys2Proof.Machine.execChainRetryExpiry busy s
  | .driveControlInterval => Sys2Proof.Machine.execDriveControlInterval s
  | .tachEdge d units => Sys2Proof.Machine.execTachEdge d units s
  | .captureOverflow d => Sys2Proof.Machine.execCaptureOverflow d s
  | .stalled d => Sys2Proof.Machine.execStalled d s
  | .rideEnd d => Sys2Proof.Machine.execRideEnd d s
  | .homeMissed d => Sys2Proof.Machine.execHomeMissed d s
  | .travelFault d => Sys2Proof.Machine.execTravelFault d s
  | .rampInterval => Sys2Proof.Machine.execRampInterval s
  | .progressTimeout t => Sys2Proof.Machine.execProgressTimeout t s
  | .approachTimerExpiry t => Sys2Proof.Machine.execApproachTimerExpiry t s
  | .blksenseChange b sensed => Sys2Proof.Machine.execBlksenseChange b sensed s
  | .occupancyChange b => Sys2Proof.Machine.execOccupancyChange b s
  | .turnoutPulseEnd => Sys2Proof.Machine.execTurnoutPulseEnd s
  | .cduRechargeEnd => Sys2Proof.Machine.execCduRechargeEnd s
  | .warningTimerExpiry c => Sys2Proof.Machine.execWarningTimerExpiry c s
  | .sensePinChange n high => Sys2Proof.Machine.execSensePinChange n high s
  | .senseDebounceDone n => Sys2Proof.Machine.execSenseDebounceDone n s
  | .rearmExpiry n => Sys2Proof.Machine.execRearmExpiry n s
  | .doorPinChange high => Sys2Proof.Machine.execDoorPinChange high s
  | .doorDebounceDone => Sys2Proof.Machine.execDoorDebounceDone s
  | .resumeTimerExpiry => Sys2Proof.Machine.execResumeTimerExpiry s

end Sys2Proof.Machine
end

