-- ==== Sys2Proof/Machine/Idle.lean ====
section
/-! DEFINITION. What the part does when no command waits (log 2, DESIGN CHOICE): the transmitter begins what waits for it, then an event that has
fallen due happens, and otherwise one microsecond of real time passes. -/

namespace Sys2Proof.Machine

/-! ## Events that have fallen due -/

/-- The dispatcher's next item: the head of the action queue in NORMAL, else the oldest frame where a reply slot is free (R34). -/
def State.dispatcherDue (s : State) : Option Instr :=
  if s.canPerform && !s.dispatcher.actions.isEmpty then some .storedActionPerform
  else
    match s.link.slots with
    | f :: _ => if s.canTake f then some (decodeFrame f.kind f.tag f.payload) else none
    | [] => none

/-- A link timer has run out: the last character of a frame (R175), or the gap limit of 10 byte times (R170, R172). -/
def State.linkDue (s : State) : Option Instr :=
  match s.link.transmitter, s.link.gap with
  | .reply 0, _ => some .transmitComplete
  | .notice _ 0, _ => some .transmitComplete
  | _, some t => if 10 * byteTime s.link.rate ≤ t then some .gapTimeout else none
  | _, none => none

/-- The SYNC pulse has lasted 1 ms (R15). -/
def State.clockDue (s : State) : Option Instr :=
  if s.clock.pin = .high ∧ s.clock.pulseUs = 0 then some .syncPulseEnd else none

/-- A time of the lamp chain has run out (R69 to R72, R75); the returned byte is a free value (log 12, DESIGN CHOICE). -/
def State.chainDue (s : State) : Option Instr :=
  match s.chain.wire with
  | .shifting 0 => some (.chainByteDone (Config.chainReturn s.freeCount) s.chain.busyPin)
  | .interval 0 => some (.byteIntervalEnd s.chain.busyPin)
  | .busyWait 0 => some .busyTimeout
  | .latching 0 => some .chainLatch
  | _ =>
    if s.chain.state = .fault ∧ s.chain.retryRunning ∧ s.chain.retryUs = 0 then some (.chainRetryExpiry s.chain.busyPin) else none

/-- A capture counter stands at 65,535 and has not overflowed yet (R86). -/
def State.driveDue (s : State) : Option Instr :=
  ((List.finRange 4).find? fun d =>
    match s.drives[d].kind with
    | .rotary r => decide (65535 ≤ r.counter) && (r.primed || !r.history.isEmpty)
    | _ => false).map .captureOverflow

/-- A timer of a block, the discharge unit or a crossing has run out (R105, R116, R152). -/
def State.trackDue (s : State) : Option Instr :=
  match (List.finRange 16).find? fun b => s.blocks[b].debounceRunning && decide (s.blocks[b].delayUs ≤ s.blocks[b].debounceUs) with
  | some b => some (.occupancyChange b)
  | none =>
    match s.cdu.state, s.cdu.leftUs with
    | .firing _, 0 => some .turnoutPulseEnd
    | .recharging, 0 => some .cduRechargeEnd
    | _, _ =>
      if s.isNormal then
        ((List.finRange 2).find? fun c => s.crossings[c].timerRunning && s.crossings[c].timerUs == 0).map .warningTimerExpiry
      else none

/-- The door's debounce has lasted 20 ms (R165). -/
def Door.debounced (x : Door) : Bool := x.debounceRunning && decide (20000 ≤ x.debounceUs)

/-- An input's debounce timer has reached the debounce time (R160). -/
def Input.debounced (x : Input) : Bool := x.debounceRunning && decide (x.debounceMs * 1000 ≤ x.debounceUs)

/-- A timer of an input, the door or the service state has run out (R160, R161, R165, R166). -/
def State.inputDue (s : State) : Option Instr :=
  match (List.finRange 16).find? fun i => s.inputs[i].debounced with
  | some i => some (.senseDebounceDone i)
  | none =>
    match (List.finRange 16).find? fun i => s.inputs[i].rearmRunning && s.inputs[i].rearmUs == 0 with
    | some i => some (.rearmExpiry i)
    | none =>
      if s.door.debounced then some .doorDebounceDone
      else if s.service.state = .resumeWait ∧ s.service.resumeRunning ∧ s.service.resumeUs = 0 then some .resumeTimerExpiry
      else none

/-- A periodic timer has run out (00_scope.md, section 3.2). -/
def State.periodDue (s : State) : Option Instr :=
  if 100000 ≤ s.periods.clockUs then some .clockStep
  else if 20000 ≤ s.periods.rampUs then some .rampInterval
  else if 50000 ≤ s.periods.controlUs then some .driveControlInterval
  else if 10000 ≤ s.periods.frameUs then some (.lightingFrame s.chain.busyPin)
  else none

/-- The first event that has fallen due, in the model's own order of the units (log 20, DESIGN CHOICE). -/
def State.nextEvent (s : State) : Option Instr :=
  s.dispatcherDue <|> s.linkDue <|> s.clockDue <|> s.chainDue <|> s.driveDue <|> s.trackDue <|> s.inputDue <|> s.periodDue

/-- The state in which an event that has fallen due happens: its periodic timer starts again, and a free value that it took is
spent; the free target of R125 then moves too (log 11, DESIGN CHOICE). -/
def State.begin (s : State) (c : Instr) : State :=
  match c with
  | .clockStep => { s with periods := { s.periods with clockUs := 0 } }
  | .rampInterval => { s with periods := { s.periods with rampUs := 0 } }
  | .driveControlInterval => { s with periods := { s.periods with controlUs := 0 } }
  | .lightingFrame _ => { s with periods := { s.periods with frameUs := 0 } }
  | .chainByteDone _ _ => { s with freeCount := s.freeCount + 1 }
  | _ => s

/-! ## One microsecond -/

/-- A microsecond at the lamp chain. -/
def Chain.tick (c : Chain) : Chain :=
  { c with
    retryUs := if c.retryRunning then c.retryUs - 1 else c.retryUs
    wire := match c.wire with
      | .quiet => .quiet
      | .shifting n => .shifting (n - 1)
      | .interval n => .interval (n - 1)
      | .busyWait n => .busyWait (n - 1)
      | .latching n => .latching (n - 1) }

/-- A microsecond at a drive's capture counter (R85). -/
def Drive.tick (x : Drive) : Drive :=
  match x.kind with
  | .rotary r =>
    if r.subUs + 1 < r.unit.us then { x with kind := .rotary { r with subUs := r.subUs + 1 } }
    else { x with kind := .rotary { r with subUs := 0, counter := min 65535 (r.counter + 1) } }
  | _ => x

/-- A microsecond at a block's debounce timer (R105). -/
def Block.tick (k : Block) : Block := if k.debounceRunning then { k with debounceUs := k.debounceUs + 1 } else k

/-- A microsecond at a crossing's warning timer, which stands while the service state is not NORMAL (R152). -/
def Crossing.tick (normal : Bool) (k : Crossing) : Crossing :=
  if k.timerRunning && normal then { k with timerUs := k.timerUs - 1 } else k

/-- A microsecond at an input's timers (R160, R161). -/
def Input.tick (x : Input) : Input :=
  { x with
    debounceUs := if x.debounceRunning then x.debounceUs + 1 else x.debounceUs
    rearmUs := if x.rearmRunning then x.rearmUs - 1 else x.rearmUs }

/-- A microsecond, 36 units of the link's time, at the gap timer and the transmitter (R170). -/
def Link.tick (l : Link) : Link :=
  { l with
    gap := l.gap.map (· + 36)
    transmitter := match l.transmitter with
      | .idle => .idle
      | .reply n => .reply (n - 36)
      | .notice x n => .notice x (n - 36) }

/-- A microsecond at the four periodic timers. -/
def Periods.tick (p : Periods) : Periods := ⟨p.clockUs + 1, p.frameUs + 1, p.rampUs + 1, p.controlUs + 1⟩

/-- One microsecond of real time. -/
def State.tick (s : State) : State :=
  { s with
    clock := { s.clock with pulseUs := s.clock.pulseUs - 1 }
    chain := s.chain.tick
    drives := mapTable (fun _ x => x.tick) s.drives
    blocks := mapTable (fun _ k => k.tick) s.blocks
    cdu := { s.cdu with leftUs := s.cdu.leftUs - 1 }
    crossings := mapTable (fun _ k => k.tick s.isNormal) s.crossings
    inputs := mapTable (fun _ x => x.tick) s.inputs
    door := { s.door with debounceUs := if s.door.debounceRunning then s.door.debounceUs + 1 else s.door.debounceUs }
    service := { s.service with resumeUs := s.service.resumeUs - 1 }
    link := s.link.tick
    periods := s.periods.tick }

/-! ## The idle step -/

/-- The transmitter is idle and a reply or notice waits for it (R175). -/
def Link.canBegin (l : Link) : Bool := l.transmitter == .idle && (!l.replies.isEmpty || !l.notices.isEmpty)

/-- What the part does when no command waits (log 2, DESIGN CHOICE). -/
def State.idle (s : State) : Host.Outcome State Fault Refusal :=
  if s.link.canBegin then .next { s with link := s.link.transmit }
  else
    match s.nextEvent with
    | some c => exec c (s.begin c)
    | none => .next s.tick

end Sys2Proof.Machine
end

