-- ==== Sys2Proof/WellFormed.lean ====
section
/-! DEFINITION. Which commands are well formed. Object numbers are bounded by their types; what is left to check is that
a payload fits a frame (chapter 11: at most 62 bytes) and that an UNKNOWN_KIND names no request kind (R174). -/

namespace Sys2Proof

/-- Well-formedness of a command. -/
def Instr.wf (i : Instr) : Bool :=
  match i with
  | .unknownKind kind _ payload => payload.length ≤ 62 && !isRequestKind kind
  | i =>
    match frameOf i with
    | some (_, _, payload) => payload.length ≤ 62
    | none => true

end Sys2Proof
end

