-- ==== Sys2Proof/Safety.lean ====
section
/-! DEFINITION. What counts as a sound state: the laws that the spec states of the part, unit by unit, each as a predicate on State
that claims are written in. -/

namespace Sys2Proof.Machine

/-- The link and the action queue hold no more than they have places for: 2 received frames, 2 replies (the one reserved by a
waiting CHAIN_CONFIG counted), 32 notices and 16 stored actions; the counters stay in their ranges (R33, R172, R173, R176). -/
def State.LinkSound (s : State) : Prop :=
  s.link.slots.length ≤ 2 ∧ s.link.replies.length + (if s.dispatcher.busy.isSome then 1 else 0) ≤ 2 ∧
    s.link.notices.length ≤ 32 ∧ s.link.lost ≤ 255 ∧ s.dispatcher.actions.length ≤ 16 ∧
    s.link.rejections.length ≤ 65535 ∧ s.link.rejections.check ≤ 65535 ∧ s.link.rejections.byte ≤ 65535 ∧
    s.link.rejections.gap ≤ 65535 ∧ s.link.rejections.full ≤ 65535

/-- The frames that wait in the slots could have come over the line (chapter 11). -/
def State.SlotsSound (s : State) : Prop := ∀ f ∈ s.link.slots, f.payload.length ≤ 62

/-- The bytes that the assembler holds, with those still to come, are a length field from 2 to 64 and that many bytes (R172). -/
def Assembler.Sound (a : Assembler) : Prop :=
  match a with
  | .body bytes left => 1 ≤ bytes.length ∧ 1 ≤ left ∧ 3 ≤ bytes.length + left ∧ bytes.length + left ≤ 65
  | .check bytes => 3 ≤ bytes.length ∧ bytes.length ≤ 65
  | _ => True

/-- The cue list holds each id once in the order of time and id, at most 64 of them; the due list holds no id twice, each the id of
a cue that is present and enabled (R22, R31). -/
def State.CuesSound (s : State) : Prop :=
  s.cues.length ≤ 64 ∧ (s.cues.map Cue.id).Nodup ∧ s.cues.Pairwise (fun a b => a.before b = true) ∧ s.due.Nodup ∧
    ∀ id ∈ s.due, ∃ c ∈ s.cues, c.id = id ∧ c.enabled = true

/-- A drive's duty: 0 for an unconfigured drive, at most duty_max for a ROTARY drive and 0 when STOPPED or STALLED, at most the
travel duty for a TRAVERSE drive and 0 when it is not moving (R82, R83, R88, R89, R95, R96). -/
def Drive.Sound (x : Drive) : Prop :=
  match x.kind with
  | .unconfigured => x.duty = 0
  | .rotary r => x.duty ≤ r.dutyMax ∧ (r.state = .stopped ∨ r.state = .stalled → x.duty = 0)
  | .traverse t => x.duty ≤ t.travelDuty ∧ (t.state.movingTo = none → x.duty = 0)

/-- Every drive's duty is sound, and every duty is 0 while the service state is not NORMAL (R89, R99). -/
def State.DrivesSound (s : State) : Prop :=
  ∀ d : Fin 4, s.drives[d].Sound ∧ (s.service.state ≠ .normal → s.drives[d].duty = 0)

/-- A crossing has a state exactly when it is configured, no block is protected by both crossings, and a protected block is RESERVED
only while its crossing is CLOSED (R149, R155). -/
def State.CrossingsSound (s : State) : Prop :=
  (∀ c : Fin 2, s.crossings[c].block = none ↔ s.crossings[c].state = none) ∧
    (s.crossings[(0 : Fin 2)].block = s.crossings[(1 : Fin 2)].block → s.crossings[(0 : Fin 2)].block = none) ∧
    ∀ c : Fin 2, ∀ b : Fin 16, s.crossings[c].block = some b → s.blocks[b].reservation = .reserved →
      s.crossings[c].state = some .closed

/-- A path requires different turnouts (R110). -/
def Path.Distinct (p : Path) : Prop := (p.needs.map Need.turnout).Nodup

/-- A block is SETTING or RESERVED and its granting path requires this turnout (R113). -/
def Block.locks (k : Block) (t : Fin 8) : Bool := k.reservation != .free && k.needs.any (fun n => n.turnout == t)

/-- Each turnout's lock count is the number of SETTING or RESERVED blocks whose granting path requires it; a FREE block has no
granting path (R103, R107, R110, R113). -/
def State.LocksSound (s : State) : Prop :=
  (∀ t : Fin 8, s.turnouts[t].locks = (s.blocks.toList.filter fun k => k.locks t).length) ∧
    (∀ b : Fin 16, s.blocks[b].reservation = .free → s.blocks[b].grant = none) ∧ (∀ p ∈ s.paths, p.Distinct) ∧
    ∀ b : Fin 16, ∀ p ∈ s.blocks[b].grant, p.Distinct

/-- The throw queue holds each turnout once, exactly those with a queued target; a coil is pulsed exactly for the turnout that the
discharge unit fires, one at a time; a READY unit in NORMAL has nothing left to take (R112, R114, R115). -/
def State.ThrowsSound (s : State) : Prop :=
  s.throwQueue.Nodup ∧ (∀ t : Fin 8, t ∈ s.throwQueue ↔ s.turnouts[t].queued ≠ none) ∧
    (∀ t : Fin 8, s.turnouts[t].firing ≠ none ↔ s.cdu.state = .firing t) ∧
    (s.cdu.state = .ready → s.service.state = .normal → s.throwQueue = [])

/-- A turnout has a locked position exactly while its lock count, at most 8, is above 0, and its queued and firing targets are then
never other than that position; the turnouts that the granting path of a SETTING or RESERVED block requires are locked as it requires
them, and for a RESERVED block they are in place (R113, R136). -/
def State.PointsSound (s : State) : Prop :=
  (∀ t : Fin 8, (s.turnouts[t].lockedAt ≠ none ↔ 0 < s.turnouts[t].locks) ∧ s.turnouts[t].locks ≤ 8 ∧
    (0 < s.turnouts[t].locks →
      (s.turnouts[t].queued = none ∨ s.turnouts[t].queued = s.turnouts[t].lockedAt) ∧
        (s.turnouts[t].firing = none ∨ s.turnouts[t].firing = s.turnouts[t].lockedAt))) ∧
    ∀ b : Fin 16, s.blocks[b].reservation ≠ .free → ∀ p ∈ s.blocks[b].grant, ∀ n ∈ p.needs,
      s.turnouts[n.turnout].lockedAt = some n.position ∧
        (s.blocks[b].reservation = .reserved →
          s.turnouts[n.turnout].position = some n.position ∧ s.turnouts[n.turnout].queued = none ∧
            s.turnouts[n.turnout].firing = none)

/-- A train holds exactly the blocks that its record names as head, tail and next, each once, and a FREE train names none; it waits
in at most one list, only while it holds no next block, for the first block of its route; a next block is the first of its route; a
train that stands or is to stop has no route (R107, R124, R125, R134). -/
def State.TrainSound (s : State) (t : Fin 8) : Prop :=
  let x := s.trains[t]
  (x.state = .free ↔ x.head = none) ∧ (x.state = .free → x.tail = none ∧ x.next = none) ∧
    (∀ b : Fin 16, s.blocks[b].holder = some t ↔ x.head = some b ∨ x.tail = some b ∨ x.next = some b) ∧
    (∀ b : Fin 16, x.head = some b → x.tail ≠ some b ∧ x.next ≠ some b) ∧ (∀ b : Fin 16, x.tail = some b → x.next ≠ some b) ∧
    (∀ b : Fin 16, t ∈ s.blocks[b].waiting ↔ x.waitingFor = some b) ∧
    (∀ b : Fin 16, x.waitingFor = some b → x.next = none ∧ x.route.head? = some b) ∧
    (∀ b : Fin 16, x.next = some b → x.route.head? = some b) ∧ (x.stopPending = true → x.route = []) ∧
    (x.state = .free ∨ x.state = .stopped → x.route = [])

/-- Every train is sound, no waiting list names a train twice, and a block has a holder exactly when it is not FREE (R107, R124,
R134). -/
def State.TrackSound (s : State) : Prop :=
  (∀ t : Fin 8, s.TrainSound t) ∧ (∀ b : Fin 16, s.blocks[b].waiting.Nodup) ∧
    ∀ b : Fin 16, s.blocks[b].reservation = .free ↔ s.blocks[b].holder = none

/-- A fade record in its ranges (R44). -/
def Fade.Sound (f : Fade) : Prop := f.start ≤ 1000 ∧ f.stop ≤ 1000 ∧ f.total ≤ 6553 ∧ f.elapsed ≤ f.total

/-- The parameters of a NIGHT role that start fades are in their ranges (R49). -/
def Role.Sound (r : Role) : Prop :=
  match r with
  | .night onLevel _ _ _ _ warmMs => onLevel ≤ 1000 ∧ warmMs ≤ 65535
  | _ => True

/-- A channel's fade and levels are in their ranges, and so is its output: a duty count on the chip, a byte on the chain (R40, R44,
R59 to R61). -/
def Channel.Sound (c : Channel) (number : Nat) : Prop :=
  c.fade.Sound ∧ c.role.Sound ∧ c.base ≤ 1000 ∧ c.scaled ≤ 1000 ∧ c.level ≤ 1000 ∧
    (if number < 32 then c.output ≤ 1000 else c.output ≤ 255)

/-- The lighting engine is sound: every channel, every group fade, the LFSR never 0, the flash position from 0 to 99 (R40, R41, R56,
R57). -/
def State.LightsSound (s : State) : Prop :=
  (∀ c : Fin 128, s.lighting.channels[c].Sound c.val) ∧ (∀ g : Fin 16, s.lighting.groups[g].Sound) ∧ s.lighting.lfsr ≠ 0 ∧
    s.lighting.flash ≤ 99

/-- The scene clock's items are in their ranges; the hold timer runs only in HELD; the curve is in ascending order of time, no time
twice; the sync state is NONE exactly outside FOLLOWER, and the pin is driven low only in LEADER and released only outside it
(R1, R8, R14, R18). -/
def State.ClockSound (s : State) : Prop :=
  s.clock.time < 864000 ∧ s.clock.scan < 864000 ∧ 1 ≤ s.clock.rate ∧ s.clock.rate ≤ 1440 ∧ s.clock.days ≤ 65535 ∧
    s.clock.holdMs ≤ 3600000 ∧ (s.clock.holdRunning = true → s.clock.state = .held) ∧
    (s.clock.holdRunning = false → s.clock.holdMs = 0) ∧ s.clock.curve.length ≤ 16 ∧
    s.clock.curve.Pairwise (fun a b => a.minute < b.minute) ∧ (∀ p ∈ s.clock.curve, p.minute ≤ 1439 ∧ p.level ≤ 1000) ∧
    s.clock.level ≤ 1000 ∧ s.clock.threshold ≤ 1000 ∧ s.clock.hysteresis ≤ 200 ∧
    (s.clock.mode = .follower ↔ s.clock.sync ≠ .idle) ∧ s.clock.advance ≤ 1200 ∧
    (s.clock.mode = .leader → s.clock.pin ≠ .undriven) ∧ (s.clock.mode ≠ .leader → s.clock.pin ≠ .low)

/-- Every stored action could have been stored; a cue's time is a time of day; an input with another use than GENERAL has no action;
the path table holds at most 48 entries, each pair of different blocks once, with at most 2 requirements; a route holds at most 12
blocks (R22, R28, R110, R124, R163). -/
def State.StoresSound (s : State) : Prop :=
  (∀ c ∈ s.cues, c.id ≤ 255 ∧ c.time ≤ 86399 ∧ storable c.action.kind c.action.payload = true) ∧
    (∀ e ∈ s.dispatcher.actions, storable e.action.kind e.action.payload = true) ∧
    (∀ i : Fin 16, ∀ a ∈ s.inputs[i].action, storable a.kind a.payload = true ∧ s.inputs[i].use = .general) ∧
    s.paths.length ≤ 48 ∧ s.paths.Pairwise (fun p q => p.src ≠ q.src ∨ p.dst ≠ q.dst) ∧
    (∀ p ∈ s.paths, p.src ≠ p.dst ∧ p.needs.length ≤ 2) ∧
    (∀ b : Fin 16, ∀ p ∈ s.blocks[b].grant, p.needs.length ≤ 2) ∧ ∀ t : Fin 8, s.trains[t].route.length ≤ 12

/-- The lamp chain: OFF exactly with no modules, a cause exactly in FAULT, the retry timer running exactly in FAULT while no retry is
sent; during a transfer the wire is busy, the byte pointer lies in the snapshot of 8 bytes a module, and between transfers it is
quiet; a busy wait stands only with the handshake on and CHAIN_BUSY high; a valid previous snapshot has the length of a snapshot; a
CHAIN_CONFIG waits only for a byte that is being shifted (R66, R68, R70 to R72, R75, R78). That no retry phase is SENDING outside FAULT
is the model's (log 31). -/
def State.ChainSound (s : State) : Prop :=
  s.chain.settings.modules ≤ 12 ∧ (s.chain.state = .off ↔ s.chain.settings.modules = 0) ∧
    (s.chain.cause = .clear ↔ s.chain.state ≠ .fault) ∧ (s.chain.retrying = true → s.chain.state = .fault) ∧
    (s.chain.retryRunning = true ↔ s.chain.state = .fault ∧ s.chain.retrying = false) ∧
    (s.chain.inTransfer = true ↔ s.chain.wire ≠ .quiet) ∧
    (s.chain.inTransfer = true →
      s.chain.pointer < 8 * s.chain.settings.modules ∧ s.chain.snapshot.length = 8 * s.chain.settings.modules) ∧
    (∀ n, s.chain.wire = .latching n → s.chain.pointer = 0) ∧
    (∀ n, s.chain.wire = .busyWait n → s.chain.busyPin = true ∧ s.chain.settings.handshake = true) ∧
    (s.chain.previousValid = true → s.chain.previous.length = 8 * s.chain.settings.modules) ∧
    (s.dispatcher.busy.isSome = true → s.chain.shiftingByte = true) ∧ s.chain.cumulative ≤ 65535 ∧ s.chain.late ≤ 65535 ∧
    s.chain.failed ≤ 255

/-- A drive is a crossing's barrier exactly when it is bound to that crossing, and then it is a TRAVERSE drive; only a configured
crossing has a barrier; the warning timer runs exactly in WARNING; without a barrier a crossing never stands in CLOSING or OPENING
(R82, R149). -/
def State.BarriersSound (s : State) : Prop :=
  (∀ c : Fin 2, ∀ d : Fin 4, s.crossings[c].barrier = some d ↔ s.drives[d].bound = some c) ∧
    (∀ d : Fin 4, s.drives[d].bound ≠ none → ∃ t, s.drives[d].kind = .traverse t) ∧
    (∀ c : Fin 2, s.crossings[c].barrier ≠ none → s.crossings[c].block ≠ none) ∧
    (∀ c : Fin 2, s.crossings[c].timerRunning = true ↔ s.crossings[c].state = some .warning) ∧
    ∀ c : Fin 2, s.crossings[c].barrier = none → s.crossings[c].state ≠ some .closing ∧ s.crossings[c].state ≠ some .opening

/-- The service state is NORMAL exactly without a cause; RESUME_WAIT follows a door and is the state in which the resume timer runs;
while the door is open the state is SERVICE with cause DOOR (R165 to R167). -/
def State.ServiceSound (s : State) : Prop :=
  (s.service.state = .normal ↔ s.service.cause = .clear) ∧ (s.service.state = .resumeWait → s.service.cause = .door) ∧
    (s.service.resumeRunning = true ↔ s.service.state = .resumeWait) ∧
    (s.door.level = true → s.service.state = .service ∧ s.service.cause = .door) ∧ s.service.autoResumeS ≤ 60

/-- The phase takes a value; a change sends DUSK or DAWN with D (R12). -/
def State.turned (s : State) (phase : Phase) : State :=
  if phase = s.clock.phase then s
  else
    { s with clock := { s.clock with phase := phase } }.send
      (Notice.clock (if phase = Phase.night then ClockEvent.dusk s.clock.level else ClockEvent.dawn s.clock.level))

/-- The link takes every notice of one event as it is sent: no class masked, nothing lost, the queue at most half full, and a frame
on the line (R175, R176). -/
def State.Listening (s : State) : Prop :=
  s.link.mask = 0xFF#8 ∧ s.link.lost = 0 ∧ s.link.notices.length ≤ 16 ∧ s.link.transmitter ≠ .idle

/-- The queue holds this notice, stamped with the present model time (R176). -/
def State.Tells (s : State) (n : Notice) : Prop := ⟨s.clock.time / 10, n⟩ ∈ s.link.notices

/-- The sense inputs that hold the use END for this end of a drive read inactive, or there is one and they read active (R95). -/
def State.EndReads (s : State) (d : Fin 4) (x : End) (active : Bool) : Prop :=
  (active = true → ∃ i : Fin 16, s.inputs[i].use = endUse d x) ∧
    ∀ i : Fin 16, s.inputs[i].use = endUse d x → s.inputs[i].active = active

/-- A TRAVERSE drive with these settings and state after it has reached an end (R95, R96). That the travel timer which stops keeps no
remaining time is the model's (log 33, DEDUCED). -/
def Drive.ended (k : Drive) (v : Traverse) (x : End) : Drive :=
  { k with duty := 0, kind := .traverse { v with state := x.atState, travelRunning := false, travelMs := 0 } }

/-- A TRAVERSE drive with these settings and state after a move toward an end whose input is not active (R95), in NORMAL or not
(R99). -/
def Drive.sent (k : Drive) (v : Traverse) (x : End) (normal : Bool) : Drive :=
  if v.state = x.movingState then { k with direction := x.direction }
  else
    { k with
      direction := x.direction, duty := if normal then v.travelDuty else 0
      kind := .traverse { v with state := x.movingState, travelRunning := true, travelMs := v.timeoutMs } }

/-- A crossing in a state in which its warning timer is stopped (R152, R154, R156, R157). -/
def Crossing.entered (k : Crossing) (state : CrossingState) : Crossing :=
  { k with state := some state, timerRunning := false, timerUs := 0 }

/-- In u the crossing c has commanded its barrier d, which had these settings and state in s, to CLOSED: it is CLOSING, the barrier on its
way; where the closed end's input is active, it is CLOSED, both having told so (R95, R152, R153). -/
def State.Lowered (s u : State) (c : Fin 2) (d : Fin 4) (v : Traverse) : Prop :=
  (s.EndReads d .closed false →
    u.crossings[c] = s.crossings[c].entered .closing ∧ u.drives[d] = s.drives[d].sent v .closed s.isNormal) ∧
  (s.EndReads d .closed true →
    u.crossings[c] = s.crossings[c].entered .closed ∧ u.drives[d] = s.drives[d].ended v .closed ∧
      (s.Listening → u.Tells (.drive d (.atEnd .closed))))

/-- In u the crossing c has commanded its barrier d, which had these settings and state in s, to OPEN: it is OPENING, the barrier on its
way; where the open end's input is active, it is OPEN, both having told so (R95, R153, R154). -/
def State.Raised (s u : State) (c : Fin 2) (d : Fin 4) (v : Traverse) : Prop :=
  (s.EndReads d .opened false →
    u.crossings[c] = s.crossings[c].entered .opening ∧ u.drives[d] = s.drives[d].sent v .opened s.isNormal) ∧
  (s.EndReads d .opened true →
    u.crossings[c] = s.crossings[c].entered .opened ∧ u.drives[d] = s.drives[d].ended v .opened ∧
      (s.Listening → u.Tells (.drive d (.atEnd .opened)) ∧ u.Tells (.crossing c (.opened s.crossings[c].block))))

/-- What the release of its protected block in s has made of the crossing c in u (R154): WARNING, CLOSING and CLOSED go to OPENING with the
barrier commanded OPEN, or without one to OPEN with the notice; FAULT stays, and no command is given. -/
def State.Reopened (s u : State) (c : Fin 2) : Prop :=
  (s.crossings[c].state = some .warning ∨ s.crossings[c].state = some .closing ∨ s.crossings[c].state = some .closed →
    (s.crossings[c].barrier = none →
      u.crossings[c] = s.crossings[c].entered .opened ∧
        (s.Listening → u.Tells (.crossing c (.opened s.crossings[c].block)))) ∧
    ∀ d : Fin 4, s.crossings[c].barrier = some d → ∀ v, s.drives[d].kind = .traverse v → s.Raised u c d v) ∧
  (s.crossings[c].state = some .fault →
    u.crossings[c] = s.crossings[c] ∧ ∀ d : Fin 4, s.crossings[c].barrier = some d → u.drives[d] = s.drives[d])

/-- Every turnout that a path requires is available for its position (R113). -/
def State.CanSet (s : State) (p : Path) : Prop :=
  ∀ n ∈ p.needs,
    (s.turnouts[n.turnout].locks = 0 ∧
        (s.turnouts[n.turnout].firing = none ∨ s.turnouts[n.turnout].firing = some n.position)) ∨
      (s.turnouts[n.turnout].lockedAt = some n.position ∧ 0 < s.turnouts[n.turnout].locks ∧ s.turnouts[n.turnout].locks < 8)

/-- A block can be granted by a path: configured, FREE and CLEAR, with every turnout of the path available (R134). -/
def State.CanGrant (s : State) (b : Fin 16) (p : Path) : Prop :=
  s.blocks[b].configured = true ∧ s.blocks[b].reservation = .free ∧ s.blocks[b].occupied = false ∧ s.CanSet p

/-- A block is held as its next block by a train to which it was granted by a path: the train has left its waiting list, this list is what
is left of it, and the turnouts of the path are locked (R113, R135). -/
def State.Granted (u : State) (t : Fin 8) (b : Fin 16) (p : Path) (rest : List (Fin 8)) : Prop :=
  u.blocks[b].reservation ≠ .free ∧ u.blocks[b].holder = some t ∧ u.blocks[b].grant = some p ∧ u.blocks[b].polarity = p.polarity ∧
    u.blocks[b].waiting = rest ∧ u.trains[t].next = some b ∧ u.trains[t].waitingFor = none ∧
    ∀ n ∈ p.needs, 0 < u.turnouts[n.turnout].locks ∧ u.turnouts[n.turnout].lockedAt = some n.position

/-- What a grant pass makes of a state w (R138): each block is granted to the first train of its waiting list by a path from that train's
head block by which it could be granted, or is as it was, since no one waits for it or it cannot be granted to the first. -/
def State.Passed (w u : State) : Prop :=
  ∀ b : Fin 16,
    (∃ (t : Fin 8) (rest : List (Fin 8)) (p : Path), w.blocks[b].waiting = t :: rest ∧ p ∈ w.paths ∧
      w.trains[t].head = some p.src ∧ p.dst = b ∧ w.CanGrant b p ∧ u.Granted t b p rest) ∨
    (u.blocks[b] = w.blocks[b] ∧
      ∀ t rest, w.blocks[b].waiting = t :: rest → ∀ p ∈ w.paths, w.trains[t].head = some p.src → p.dst = b → ¬ u.CanGrant b p)

/-- A role whose parameters are in their ranges (R48, R49, R52 to R56). -/
def Role.InRange (r : Role) : Prop :=
  match r with
  | .daylight gain _ => gain ≤ 1000
  | .night onLevel mode below above stagger warmMs =>
    onLevel ≤ 1000 ∧ below ≤ 1000 ∧ above ≤ 1000 ∧ stagger ≤ 60 ∧ warmMs ≤ 65535 ∧ (mode = .thresholds → below ≤ above)
  | .flicker min max period => min ≤ max ∧ max ≤ 1000 ∧ 1 ≤ period ∧ period ≤ 255
  | .blink level lit dark => level ≤ 1000 ∧ 1 ≤ lit ∧ lit ≤ 65535 ∧ 1 ≤ dark ∧ dark ≤ 65535
  | .breathe min max period => min ≤ max ∧ max ≤ 1000 ∧ 2 ≤ period ∧ period ≤ 65535
  | .signal _ _ level => level ≤ 1000
  | .crossing _ _ level => level ≤ 1000
  | _ => True

/-- Chain settings in their ranges (R66). -/
def ChainSettings.InRange (x : ChainSettings) : Prop :=
  x.modules ≤ 12 ∧ x.interval ≤ 31 ∧ 1 ≤ x.timeoutMs ∧ x.timeoutMs ≤ 255 ∧ 1 ≤ x.threshold ∧ x.threshold ≤ 255

/-- A number of one byte, and one of two bytes, as a request carries them (R181). -/
def byte1 (n : Nat) : Byte := BitVec.ofNat 8 n

/-- Numbers as a reply carries them: each in so many bytes, the most significant first (R181). -/
def fields (l : List (Nat × Nat)) : List Byte :=
  l.flatMap fun f => (List.range f.1).map fun k => byte1 (f.2 / 256 ^ (f.1 - 1 - k))

/-- An item that may be none, as a one-byte field of a reply: 0xFF for none (R181). -/
def orNone (x : Option Nat) : Nat := x.getD 255

/-- A list of commands executed one after the other, stopping at the first that does not end in a next state. -/
def execAll : List Instr → State → Host.Outcome State Fault Refusal
  | [], s => .next s
  | c :: rest, s =>
    match exec c s with
    | .next t => execAll rest t
    | .fault r => .fault r
    | .refused r => .refused r

/-- The commands that bring the characters of a line, each with a good stop bit (R170). -/
def charactersOf (bytes : List Byte) : List Instr := bytes.map fun b => .rxCharacter b true

/-- A fade record after n frames (R44). -/
def Fade.after (f : Fade) : Nat → Fade
  | 0 => f
  | n + 1 => (f.after n).advance

/-- The on-condition of a NIGHT channel (R49). -/
def Clock.nightOn (k : Clock) (mode : NightMode) (below : Nat) : Bool :=
  match mode with | .followPhase => k.phase == .night | .thresholds => decide (k.level < below)

/-- The off-condition of a NIGHT channel (R49). -/
def Clock.nightOff (k : Clock) (mode : NightMode) (above : Nat) : Bool :=
  match mode with | .followPhase => k.phase == .day | .thresholds => decide (above < k.level)

/-- A channel draws from the LFSR in a frame: a FLICKER channel at position 0, a NIGHT channel as it leaves OFF or ON (R58). -/
def Channel.draws (x : Channel) (k : Clock) : Bool :=
  match x.role with
  | .flicker .. => x.position == 0
  | .night _ mode below above _ _ =>
    (x.switching == .off && k.nightOn mode below) || (x.switching == .on && k.nightOff mode above)
  | _ => false

/-- The LFSR value that channel n finds in a lighting frame, the channels being worked in ascending number (R58). -/
def State.lfsrAt (s : State) : Nat → Lfsr
  | 0 => s.lighting.lfsr
  | n + 1 =>
    match s.lighting.channels[n]? with
    | some x => if x.draws s.clock then draw (s.lfsrAt n) else s.lfsrAt n
    | none => s.lfsrAt n

/-- Step 3 of R126 as the rule words it: while 50 units are left and the target is not reached, one step toward it. -/
def rampMoves (target : Nat) : Nat → Nat × Nat → Nat × Nat
  | 0, p => p
  | fuel + 1, p =>
    if 50 ≤ p.2 ∧ p.1 ≠ target then rampMoves target fuel (if p.1 < target then p.1 + 1 else p.1 - 1, p.2 - 50) else p

/-- A reply with its result for a performed request: ADJUSTED where a value was clamped (R182). -/
def State.reply (s : State) (kind tag : Byte) (clamped : Bool) : State :=
  s.answer kind tag (if clamped then .adjusted else .ok) []

end Sys2Proof.Machine
end

