-- ==== Sys2Proof/Certificates/Slice0/Obligations.lean ====
section
/-! DEFINITION. The statements about the LW-640, unit by unit. A next state is written out from the state before, so that what a
statement does not name is unchanged; `s.taken` is the state in which the dispatcher performs a frame it has taken, and `reply` and
`answer` append the frame's reply. -/

open Sys2Proof Sys2Proof.Machine

/-! ## The machine -/

/-- A step takes the command at the front of the queue and executes it on the state with the queue's rest. -/
def Obligations.StepRunsTheFrontCommand : Prop :=
  ∀ (c : Instr) (rest : List Instr) (s : State),
    step { s with pending := c :: rest } = exec c { s with pending := rest }

/-- No step stops the part: where the waiting commands are well formed and the received frames could have come over the line, a step,
idle steps among them, ends in a next state. -/
def Obligations.WellFormedStepsNeverStop : Prop :=
  ∀ s : State, (∀ c ∈ s.pending, c.wf = true) → s.SlotsSound → ∃ t, step s = .next t

/-- Every frame that the dispatcher takes receives exactly one reply, and a refused request changes nothing else (R173, R174, R182);
the one request whose reply may wait is a CHAIN_CONFIG taken while a byte is being shifted (R78). -/
def Obligations.EveryTakenFrameIsAnswered : Prop :=
  ∀ (kind tag : Byte) (payload : List Byte) (s : State), payload.length ≤ 62 → s.canTake ⟨kind, tag, payload⟩ = true →
    (∃ t result data, exec (decodeFrame kind tag payload) s = .next (t.answer kind tag result data) ∧
        t.link.replies = s.link.replies ∧ t.link.slots = s.link.slots.tail ∧
        (result = .ok ∨ result = .adjusted ∨ (t = s.taken ∧ data = []))) ∨
      ∃ t w, exec (decodeFrame kind tag payload) s = .next t ∧ kind = 0x24#8 ∧ s.chain.shiftingByte = true ∧ w.tag = tag ∧
        t = { s.taken with dispatcher := { s.dispatcher with busy := some w } }

/-- A frame that the dispatcher cannot take now changes nothing but the link: it waits in a free slot, or is discarded and counted as
FULL. This is the model's reading of a request command (log 5). -/
def Obligations.UntakenFrameWaitsInASlot : Prop :=
  ∀ (kind tag : Byte) (payload : List Byte) (s : State), payload.length ≤ 62 → s.canTake ⟨kind, tag, payload⟩ = false →
    exec (decodeFrame kind tag payload) s =
      .next { s with
        link :=
          if s.link.slots.length < 2 then { s.link with slots := s.link.slots ++ [⟨kind, tag, payload⟩] }
          else
            { s.link with rejections := { s.link.rejections with full := min 65535 (s.link.rejections.full + 1) } } }

/-- The kind byte of a request frame and the command it names determine each other, and tag and payload are kept (section 11.2). -/
def Obligations.FrameKindsRoundTrip : Prop :=
  (∀ (kind tag : Byte) (payload : List Byte), frameOf (decodeFrame kind tag payload) = some (kind, tag, payload)) ∧
    ∀ (i : Instr) (kind tag : Byte) (payload : List Byte), i.wf = true → frameOf i = some (kind, tag, payload) →
      decodeFrame kind tag payload = i

/-- After a power-on reset, whatever the pins read, every law of the part holds (R180 with the reset values of every chapter). -/
def Obligations.PowerOnIsSound : Prop :=
  ∀ (p : Pins) (pending : List Instr) (n : Nat), let s := State.powerOn p pending n
    s.LinkSound ∧ s.SlotsSound ∧ s.link.assembler.Sound ∧ s.ClockSound ∧ s.CuesSound ∧ s.StoresSound ∧ s.LightsSound ∧
      s.ChainSound ∧ s.DrivesSound ∧ s.BarriersSound ∧ s.CrossingsSound ∧ s.LocksSound ∧ s.ThrowsSound ∧ s.PointsSound ∧
      s.TrackSound ∧ s.ServiceSound

/-- Every step keeps the link's and the action queue's capacities (R33, R172, R173, R176), and the frames in the slots, with what
the assembler holds, such as a line can bring (R172, R173). -/
def Obligations.StepsKeepLinkSound : Prop :=
  (∀ s t : State, s.LinkSound → step s = .next t → t.LinkSound) ∧
    ∀ s t : State, s.SlotsSound → s.link.assembler.Sound → step s = .next t → t.SlotsSound ∧ t.link.assembler.Sound

/-- Every step keeps the clock's items in their ranges, the curve in order, and the sync state and the pin as the mode wants them
(R1, R8, R14, R18). -/
def Obligations.StepsKeepClockSound : Prop := ∀ s t : State, s.ClockSound → step s = .next t → t.ClockSound

/-- Every step keeps the laws of the cue list and the due list (R22, R31). -/
def Obligations.StepsKeepCuesSound : Prop := ∀ s t : State, s.CuesSound → step s = .next t → t.CuesSound

/-- Every step keeps stored actions storable, cue times within the day, the path table and the routes within their capacities (R22,
R28, R110, R124, R163). -/
def Obligations.StepsKeepStoresSound : Prop := ∀ s t : State, s.StoresSound → step s = .next t → t.StoresSound

/-- Every step keeps every level from 0 to 1000 and every chain byte from 0 to 255, and the LFSR from 0 (R44, R57, R61). -/
def Obligations.StepsKeepLightsSound : Prop := ∀ s t : State, s.LightsSound → step s = .next t → t.LightsSound

/-- Every step keeps the laws that tie the chain's state, its cause, its wire, its byte pointer and its retry timer, a busy wait
standing only while CHAIN_BUSY is high (R66, R68, R70 to R72, R75, R78). That the retry phase is WAITING outside FAULT is the model's
choice (log 31). -/
def Obligations.StepsKeepChainSound : Prop := ∀ s t : State, s.ChainSound → step s = .next t → t.ChainSound

/-- Every step keeps every drive's duty within its limit, and 0 while the service state is not NORMAL (R89, R99). -/
def Obligations.StepsKeepDrivesSound : Prop := ∀ s t : State, s.DrivesSound → step s = .next t → t.DrivesSound

/-- Every step keeps a protected block from being RESERVED while its crossing is not CLOSED (R155); and barriers and bound drives
paired, a bound drive TRAVERSE, and the warning timer running exactly in WARNING (R82, R149). -/
def Obligations.StepsKeepCrossingsSound : Prop :=
  (∀ s t : State, s.CrossingsSound → step s = .next t → t.CrossingsSound) ∧
    ∀ s t : State, s.BarriersSound → step s = .next t → t.BarriersSound

/-- Every step keeps each turnout's lock count equal to the number of held blocks whose granting path requires it (R113), the laws of
the throw queue and the discharge unit (R112, R114, R115), and, with these, a locked turnout's targets at its locked position and a
RESERVED block's turnouts in place (R113, R136). -/
def Obligations.StepsKeepTurnoutsSound : Prop :=
  (∀ s t : State, s.LocksSound → step s = .next t → t.LocksSound) ∧
    (∀ s t : State, s.ThrowsSound → step s = .next t → t.ThrowsSound) ∧
    ∀ s t : State, s.LocksSound → s.ThrowsSound → s.PointsSound → step s = .next t → t.PointsSound

/-- Every step keeps the laws that tie trains, their blocks and the waiting lists (R107, R124, R134). -/
def Obligations.StepsKeepTrackSound : Prop := ∀ s t : State, s.TrackSound → step s = .next t → t.TrackSound

/-- Every step keeps the laws of the service state, its cause, its timer and the door (R165 to R167). -/
def Obligations.StepsKeepServiceSound : Prop := ∀ s t : State, s.ServiceSound → step s = .next t → t.ServiceSound

/-- POWER_ON_RESET gives the machine of R180: every item has its power-on value (R1, R22, R31, R33, R40, R41, R56, R57, R66, R82, R103,
R110, R112, R114, R115, R124, R149, R159, R165, R172 to R174, R176), the pins are read as they stand, the straps set the rate, and the
notice queue holds the READY notice alone. -/
def Obligations.PowerOnResetRestartsThePart : Prop :=
  ∀ (rate1 rate0 : Bool) (s : State), ∃ t, exec (.powerOnReset rate1 rate0) s = .next t ∧
    t.clock =
      { state := .stopped, time := 0, rate := 60, days := 0, scan := 0, holdRunning := false, holdMs := 0
        curve := [⟨5 * 60, 0⟩, ⟨7 * 60, 1000⟩, ⟨19 * 60, 1000⟩, ⟨21 * 60, 0⟩], level := 0, phase := .night, threshold := 300
        hysteresis := 50, mode := .alone, sync := .idle, advance := 0, pin := .undriven, pulseUs := 0 } ∧
    t.cues = [] ∧ t.due = [] ∧ t.dispatcher = ⟨[], none⟩ ∧
    (∀ c : Fin 128, t.lighting.channels[c] =
      { role := .off, group := none, response := .linear, service := false, fade := ⟨0, 0, 0, 0⟩, switching := .off, remaining := 0
        position := 0, held := 0, base := 0, scaled := 0, level := 0, output := 0 }) ∧
    (∀ g : Fin 16, t.lighting.groups[g] = ⟨1000, 1000, 0, 0⟩) ∧ t.lighting.lfsr = 0xACE1#16 ∧ t.lighting.flash = 0 ∧
    (∀ i : Fin 96, t.chain.buffer[i] = 0#8) ∧
    t.chain =
      { settings :=
          { modules := 0, clock := .khz250, interval := 0, handshake := false, timeoutMs := 20, loopCheck := false, threshold := 4 }
        state := .off, cause := .clear, retrying := false, retryRunning := false, retryUs := 0, buffer := t.chain.buffer
        snapshot := [], pointer := 0, previous := [], previousValid := false, mismatch := 0, cumulative := 0, late := 0, failed := 0
        wire := .quiet, busyPin := s.chain.busyPin } ∧
    (∀ d : Fin 4, t.drives[d] = { kind := .unconfigured, kp := 40, ki := 4, duty := 0, direction := .low, bound := none }) ∧
    (∀ b : Fin 16, t.aspect b = .stop ∧ t.blockDuty b = 0 ∧
      t.blocks[b] =
        { configured := false, onMs := 30, offMs := 500, approachSpeed := 24, approachMs := 0, transitS := 30
          detector := s.blocks[b].detector, occupied := false, debounceRunning := false, debounceUs := 0, reservation := .free
          holder := none, grant := none, polarity := .fwd, waiting := [] }) ∧
    t.paths = [] ∧
    (∀ x : Fin 8,
      t.turnouts[x] = { position := none, queued := none, firing := none, locks := 0, lockedAt := none, pulseMs := 60 }) ∧
    t.throwQueue = [] ∧ t.cdu = { state := .recharging, leftUs := 500 * 1000, rechargeMs := 500 } ∧
    (∀ x : Fin 8, t.target x = 0 ∧
      t.trains[x] =
        { state := .free, cause := .clear, head := none, tail := none, next := none, route := [], speed := 0, step := 0, accel := 1
          decel := 1, kick := 0, ramp := 0, stopPending := false, phase := .inactive, approachMs := 0, progressMs := 0
          waitingFor := none }) ∧
    (∀ c : Fin 2, t.crossings[c] =
      { block := none, barrier := none, warningMs := 3000, state := none, timerRunning := false, timerUs := 0 }) ∧
    (∀ i : Fin 16, t.inputs[i] =
      { trigger := .never, debounceMs := 10, use := .general, pin := s.inputs[i].pin, level := s.inputs[i].pin
        debounceRunning := false, debounceUs := 0, action := none, rearmS := 0, notice := false, rearmRunning := false
        rearmUs := 0 }) ∧
    t.door = { pin := s.door.pin, level := s.door.pin, debounceRunning := false, debounceUs := 0 } ∧
    t.service =
      { state := if s.door.pin then .service else .normal, cause := if s.door.pin then .door else .clear, autoResumeS := 0
        resumeRunning := false, resumeUs := 0 } ∧
    t.link.rate.val = 2 * rate1.toNat + rate0.toNat ∧ t.link.assembler = .hunt ∧ t.link.gap = none ∧ t.link.slots = [] ∧
    t.link.replies = [] ∧ t.link.transmitter = .idle ∧ t.link.mask = 0xFF#8 ∧ t.link.lost = 0 ∧
    t.link.rejections = { length := 0, check := 0, byte := 0, gap := 0, full := 0 } ∧
    t.link.notices = [⟨0, .ready t.link.rate t.service.state⟩]

/-! ## The message link (chapter 10) -/

/-- A whole frame received in HUNT (R171 to R173): with a slot free, its characters put exactly that frame into a slot, a wrong check
byte rejects it with CHECK, and the assembler hunts again; with both slots occupied it is passed over whole and counted once as FULL. -/
def Obligations.ReceivedFramesReachASlot : Prop :=
  ∀ (f : Frame) (check : Byte) (s : State), f.payload.length ≤ 62 → s.link.assembler = .hunt →
    (s.link.slots.length < 2 →
      execAll (charactersOf f.characters) s = .next { s with link := { s.link with gap := none, slots := s.link.slots ++ [f] } }) ∧
    (s.link.slots.length < 2 → check ≠ crc8 f.body →
      execAll (charactersOf ([0xA5#8] ++ f.body ++ [check])) s =
        .next { s with
          link :=
            { s.link with
              gap := none
              rejections := { s.link.rejections with check := min 65535 (s.link.rejections.check + 1) } } }) ∧
    (2 ≤ s.link.slots.length →
      execAll (charactersOf ([0xA5#8] ++ f.body ++ [check])) s =
        .next { s with
          link :=
            { s.link with
              gap := none
              rejections := { s.link.rejections with full := min 65535 (s.link.rejections.full + 1) } } })

/-- A start byte in HUNT with a slot free goes to LENGTH, and a good length field to BODY, each restarting the gap timer (R172). A
missing stop bit in LENGTH, BODY or CHECK rejects the frame with BYTE; in HUNT the character changes nothing. A length out of range
rejects it with LENGTH. GAP_TIMEOUT rejects a frame in assembly with GAP and ends a discard without a count (R172, R173). -/
def Obligations.CharactersMoveTheAssembler : Prop :=
  (∀ s : State, s.link.assembler = .hunt → s.link.slots.length < 2 →
    exec (.rxCharacter 0xA5#8 true) s = .next { s with link := { s.link with assembler := .length, gap := some 0 } }) ∧
  (∀ (b : Byte) (s : State), s.link.assembler = .length → 2 ≤ b.toNat → b.toNat ≤ 64 →
    exec (.rxCharacter b true) s =
      .next { s with link := { s.link with assembler := .body [b] b.toNat, gap := some 0 } }) ∧
  (∀ (b : Byte) (s : State), s.link.assembler = .length ∨ (∃ x n, s.link.assembler = .body x n) ∨
      (∃ x, s.link.assembler = .check x) →
    exec (.rxCharacter b false) s =
      .next { s with
        link :=
          { s.link with
            assembler := .hunt, gap := none
            rejections := { s.link.rejections with byte := min 65535 (s.link.rejections.byte + 1) } } }) ∧
  (∀ (b : Byte) (s : State), s.link.assembler = .hunt → exec (.rxCharacter b false) s = .next s) ∧
  (∀ (b : Byte) (s : State), s.link.assembler = .hunt → b ≠ 0xA5#8 → exec (.rxCharacter b true) s = .next s) ∧
  (∀ (b : Byte) (s : State), s.link.assembler = .length → b.toNat < 2 ∨ 64 < b.toNat →
    exec (.rxCharacter b true) s =
      .next { s with
        link :=
          { s.link with
            assembler := .hunt, gap := none
            rejections := { s.link.rejections with length := min 65535 (s.link.rejections.length + 1) } } }) ∧
  (∀ s : State, s.link.assembler = .length ∨ (∃ x n, s.link.assembler = .body x n) ∨ (∃ x, s.link.assembler = .check x) →
    exec .gapTimeout s =
      .next { s with
        link :=
          { s.link with
            assembler := .hunt, gap := none
            rejections := { s.link.rejections with gap := min 65535 (s.link.rejections.gap + 1) } } }) ∧
  ∀ s : State, s.link.assembler = .discardLength ∨ (∃ n, s.link.assembler = .discardBody n) →
    exec .gapTimeout s = .next { s with link := { s.link with assembler := .hunt, gap := none } }

/-- TRANSMIT_COMPLETE frees the slot of a transmitted reply; the transmitter then begins the oldest pending reply, else the notice at
the head of the queue, which leaves it, else stays idle (R174, R175). -/
def Obligations.TransmitterChoosesRepliesFirst : Prop :=
  ∀ (s : State) (r : List Frame),
    ((∃ n, s.link.transmitter = .reply n) ∧ r = s.link.replies.tail) ∨
      ((∃ x n, s.link.transmitter = .notice x n) ∧ r = s.link.replies) →
    (∀ f rest, r = f :: rest →
      exec .transmitComplete s =
        .next { s with
          link := { s.link with replies := r, transmitter := .reply ((f.payload.length + 5) * byteTime s.link.rate) } }) ∧
    (∀ n rest, r = [] → s.link.notices = n :: rest →
      exec .transmitComplete s =
        .next { s with
          link :=
            { s.link with
              replies := [], notices := rest
              transmitter := .notice n ((n.notice.bytes.length + 8) * byteTime s.link.rate) } }) ∧
    (r = [] → s.link.notices = [] →
      exec .transmitComplete s = .next { s with link := { s.link with replies := [], transmitter := .idle } })

/-- A notice offered while the transmitter is sending: masked, lost, queued, or queued behind a NOTICES_LOST; with one place free the
NOTICES_LOST takes it (R176). -/
def Obligations.NoticesAreOfferedByTheirRule : Prop :=
  ∀ (n : Notice) (s : State), s.link.transmitter ≠ .idle →
    (n.enabled s.link.mask = false → s.send n = s) ∧
    (n.enabled s.link.mask = true → 32 ≤ s.link.notices.length →
      s.send n = { s with link := { s.link with lost := min 255 (s.link.lost + 1) } }) ∧
    (n.enabled s.link.mask = true → s.link.notices.length < 32 → s.link.lost = 0 →
      s.send n = { s with link := { s.link with notices := s.link.notices ++ [⟨s.clock.time / 10, n⟩] } }) ∧
    (n.enabled s.link.mask = true → s.link.notices.length < 31 → 0 < s.link.lost →
      s.send n =
        { s with
          link :=
            { s.link with
              lost := 0
              notices :=
                s.link.notices ++ [⟨s.clock.time / 10, .noticesLost s.link.lost⟩, ⟨s.clock.time / 10, n⟩] } }) ∧
    (n.enabled s.link.mask = true → s.link.notices.length = 31 → 0 < s.link.lost →
      s.send n =
        { s with
          link :=
            { s.link with lost := 1, notices := s.link.notices ++ [⟨s.clock.time / 10, .noticesLost s.link.lost⟩] } })

/-- A reply carries the request's tag and, for the request kinds 0x01 to 0x7F, its kind plus 0x80, else 0x80; its first payload byte is
the result, and data follows only OK and ADJUSTED (R174). -/
def Obligations.RepliesCarryKindTagAndResult : Prop :=
  ∀ (kind tag : Byte) (result : Result) (data : List Byte),
    (encodeReply kind tag result data).tag = tag ∧
    (encodeReply kind tag result data).kind.toNat =
      (if 1 ≤ kind.toNat ∧ kind.toNat ≤ 127 then kind.toNat + 128 else 128) ∧
    (result = .ok ∨ result = .adjusted →
      (encodeReply kind tag result data).payload = BitVec.ofNat 8 result.code :: data) ∧
    (result ≠ .ok → result ≠ .adjusted → (encodeReply kind tag result data).payload = [BitVec.ofNat 8 result.code])

/-- PING, STATUS, NOTICE_MASK, SAY and UNKNOWN_KIND, each taken, do what R36, R174, R177 and R178 say and are answered, STATUS with the
fields of section 11.4. -/
def Obligations.GeneralRequestsAreAnswered : Prop :=
  (∀ (tag : Byte) (s : State), s.canTake ⟨0x01#8, tag, []⟩ = true →
    exec (.ping tag []) s =
      .next (s.taken.answer 0x01#8 tag .ok
        [0x4C#8, 0x40#8, 1#8, BitVec.ofNat 8 s.link.rate.val, 128#8, 16#8, 12#8, 16#8, 64#8, 16#8, 4#8, 16#8, 48#8, 8#8, 8#8, 2#8,
          16#8, 32#8])) ∧
  (∀ (tag : Byte) (clear : Bool) (s : State), s.canTake ⟨0x02#8, tag, outFlag clear⟩ = true →
    ∃ data, data.length = 21 ∧
      data =
        fields
          [(1, s.service.state.code), (1, s.service.cause.code), (1, s.clock.state.code), (1, s.clock.phase.code),
            (2, s.clock.level), (1, s.taken.link.notices.length), (1, s.link.lost), (2, s.link.rejections.length),
            (2, s.link.rejections.check), (2, s.link.rejections.byte), (2, s.link.rejections.gap), (2, s.link.rejections.full),
            (1, s.taken.link.slots.length), (1, s.dispatcher.actions.length), (1, s.chain.state.code)] ∧
      exec (.status tag (outFlag clear)) s =
        .next ((if clear then { s.taken with link := { s.taken.link with rejections := ⟨0, 0, 0, 0, 0⟩ } } else s.taken).answer
          0x02#8 tag .ok data)) ∧
  (∀ (tag mask : Byte) (s : State), s.canTake ⟨0x04#8, tag, [mask]⟩ = true →
    exec (.noticeMask tag [mask]) s = .next ({ s.taken with link := { s.taken.link with mask := mask } }.answer 0x04#8 tag .ok [])) ∧
  (∀ (tag code : Byte) (s : State), s.canTake ⟨0x07#8, tag, [code]⟩ = true →
    exec (.say tag [code]) s = .next ((s.taken.send (.say code .host)).answer 0x07#8 tag .ok [])) ∧
  ∀ (kind tag : Byte) (payload : List Byte) (s : State), isRequestKind kind = false → payload.length ≤ 62 →
    s.canTake ⟨kind, tag, payload⟩ = true →
    exec (.unknownKind kind tag payload) s = .next (s.taken.answer kind tag .unknownKind [])

/-! ## The scene clock (chapter 1) -/

/-- CLOCK_RUN takes a clock that is not RUNNING to RUNNING and stops the hold timer, and changes nothing in RUNNING (R5); CLOCK_STOP
takes the clock to STOPPED from any state and stops the hold timer (R7). CLOCK_HOLD holds a clock that is not STOPPED, the hold timer
starting with the duration or stopped for duration 0, and is refused in STOPPED (R6). CLOCK_SET sets the model time, the scan position
and the rate, recomputes D and sets the phase plainly (R4). In service neither the model time nor the hold timer moves (R3); in
NORMAL the clock step at which the hold timer reaches 0 sets the clock RUNNING with its notice. -/
def Obligations.ClockRequestsSetTheClock : Prop :=
  (∀ (tag : Byte) (s : State), s.canTake ⟨0x11#8, tag, []⟩ = true → s.clock.state ≠ .running →
    exec (.clockRun tag []) s =
      .next ({ s.taken with clock := { s.clock with state := .running, holdRunning := false, holdMs := 0 } }.reply
        0x11#8 tag false)) ∧
  (∀ (tag : Byte) (s : State), s.canTake ⟨0x11#8, tag, []⟩ = true → s.clock.state = .running →
    exec (.clockRun tag []) s = .next (s.taken.reply 0x11#8 tag false)) ∧
  (∀ (tag : Byte) (s : State), s.canTake ⟨0x13#8, tag, []⟩ = true →
    exec (.clockStop tag []) s =
      .next ({ s.taken with clock := { s.clock with state := .stopped, holdRunning := false, holdMs := 0 } }.reply
        0x13#8 tag false)) ∧
  (∀ (tag d1 d0 : Byte) (s : State), s.canTake ⟨0x12#8, tag, [d1, d0]⟩ = true → s.clock.state ≠ .stopped →
    exec (.clockHold tag [d1, d0]) s =
      .next ({ s.taken with
        clock :=
          { s.clock with
            state := .held, holdRunning := decide (0 < be2 d1 d0), holdMs := min 3600 (be2 d1 d0) * 1000 } }.reply
        0x12#8 tag (decide (3600 < be2 d1 d0)))) ∧
  (∀ (tag d1 d0 : Byte) (s : State), s.canTake ⟨0x12#8, tag, [d1, d0]⟩ = true → s.clock.state = .stopped →
    exec (.clockHold tag [d1, d0]) s = .next (s.taken.answer 0x12#8 tag .stateConflict [])) ∧
  (∀ s : State, s.service.state ≠ .normal →
    ∃ t, exec .clockStep s = .next t ∧ t.clock.time = s.clock.time ∧ t.clock.state = s.clock.state ∧
      t.clock.holdMs = s.clock.holdMs ∧ t.clock.holdRunning = s.clock.holdRunning) ∧
  (∀ s : State, s.service.state = .normal → s.clock.state = .held → s.clock.holdRunning = true → s.clock.holdMs ≤ 100 →
    ∃ t, exec .clockStep s = .next t ∧ t.clock.state = .running ∧ t.clock.holdRunning = false ∧ t.clock.holdMs = 0 ∧
      (s.Listening → ⟨s.clock.time / 10, .clock .holdEnd⟩ ∈ t.link.notices)) ∧
  (∀ (tag t2 t1 t0 r1 r0 : Byte) (s : State), s.canTake ⟨0x10#8, tag, [t2, t1, t0, r1, r0]⟩ = true → be3 t2 t1 t0 ≤ 86399 →
    exec (.clockSet tag [t2, t1, t0, r1, r0]) s =
      .next (({ s.taken with
        clock :=
          { s.clock with
            time := be3 t2 t1 t0 * 10, scan := be3 t2 t1 t0 * 10, rate := max 1 (min 1440 (be2 r1 r0))
            level := daylight s.clock.curve (be3 t2 t1 t0) } }.turned
        (if daylight s.clock.curve (be3 t2 t1 t0) < s.clock.threshold then .night else .day)).reply
        0x10#8 tag (decide (be2 r1 r0 = 0 ∨ 1440 < be2 r1 r0)))) ∧
  ∀ (tag t2 t1 t0 r1 r0 : Byte) (s : State), s.canTake ⟨0x10#8, tag, [t2, t1, t0, r1, r0]⟩ = true → 86399 < be3 t2 t1 t0 →
    exec (.clockSet tag [t2, t1, t0, r1, r0]) s = .next (s.taken.answer 0x10#8 tag .badArgument [])

/-- CURVE_LOAD replaces the whole curve by the given points, sorted by time, the last given of equal times kept and every level at
most 1000; D is recomputed and the phase set plainly (R8, R9). That a clamp of a point which is then replaced also counts as ADJUSTED
is the model's choice (log 29). -/
def Obligations.CurveLoadReplacesTheCurve : Prop :=
  ∀ (points : List (Byte × Byte × Byte)) (payload : List Byte) (given : List Nat) (tag : Byte) (s : State), points.length ≤ 16 →
    payload = byte1 points.length :: points.flatMap (fun p => [p.1, p.2.1, p.2.2]) →
    given = points.map (fun p => be3 p.1 p.2.1 p.2.2) → (∀ v ∈ given, v / 4096 ≤ 1439) →
    s.canTake ⟨0x14#8, tag, payload⟩ = true →
    ∃ curve : List CurvePoint, curve.Pairwise (fun a b => a.minute < b.minute) ∧
      (∀ q : CurvePoint, q ∈ curve ↔
        ∃ v, (given.filter fun v => v / 4096 == q.minute).getLast? = some v ∧ q.level = min 1000 (v % 4096)) ∧
      exec (.curveLoad tag payload) s =
        .next (({ s.taken with
          clock := { s.clock with curve := curve, level := daylight curve (s.clock.time / 10) } }.turned
          (if daylight curve (s.clock.time / 10) < s.clock.threshold then .night else .day)).reply
          0x14#8 tag (given.any fun v => decide (1000 < v % 4096)))

/-- The daylight level: 1000 without points, the level of a single point, between two neighbouring points the straight line truncated
toward zero, from the last point to the first one across midnight; it lies between the smallest and the largest level, and every clock
step takes it from the model time in whole seconds (R10). -/
def Obligations.DaylightFollowsTheCurve : Prop :=
  (∀ t, daylight [] t = 1000) ∧ (∀ (p : CurvePoint) (t : Nat), daylight [p] t = p.level) ∧
  (∀ (l r : List CurvePoint) (a b : CurvePoint) (t : Nat),
    (l ++ a :: b :: r).Pairwise (fun p q => p.minute < q.minute) → (∀ p ∈ l ++ a :: b :: r, p.minute ≤ 1439) →
    a.minute * 60 ≤ t → t < b.minute * 60 →
    (daylight (l ++ a :: b :: r) t : Int) =
      a.level + (((b.level : Int) - a.level) * ((t : Int) - a.minute * 60)).tdiv ((b.minute : Int) * 60 - a.minute * 60)) ∧
  (∀ (m : List CurvePoint) (a b : CurvePoint) (t : Nat),
    (b :: (m ++ [a])).Pairwise (fun p q => p.minute < q.minute) → (∀ p ∈ b :: (m ++ [a]), p.minute ≤ 1439) → t < 86400 →
    (t < b.minute * 60 ∨ a.minute * 60 ≤ t) →
    (daylight (b :: (m ++ [a])) t : Int) =
      a.level +
        (((b.level : Int) - a.level) * (((t : Int) - a.minute * 60) % 86400)).tdiv
          (((b.minute : Int) * 60 - a.minute * 60) % 86400)) ∧
  (∀ (curve : List CurvePoint) (t lo hi : Nat), curve ≠ [] → curve.Pairwise (fun p q => p.minute < q.minute) →
    (∀ p ∈ curve, p.minute ≤ 1439 ∧ lo ≤ p.level ∧ p.level ≤ hi) → t < 86400 →
    lo ≤ daylight curve t ∧ daylight curve t ≤ hi) ∧
  ∀ s : State, ∃ t, exec .clockStep s = .next t ∧ t.clock.level = daylight s.clock.curve (t.clock.time / 10)

/-- PHASE_CONFIG sets the threshold and the hysteresis and the phase plainly, D kept (R13); a clock step re-evaluates the phase with
hysteresis (R12). -/
def Obligations.PhaseIsSetPlainlyOrWithHysteresis : Prop :=
  (∀ (tag t1 t0 h : Byte) (s : State), s.canTake ⟨0x17#8, tag, [t1, t0, h]⟩ = true →
    exec (.phaseConfig tag [t1, t0, h]) s =
      .next (({ s.taken with
        clock := { s.clock with threshold := min 1000 (be2 t1 t0), hysteresis := min 200 h.toNat } }.turned
        (if s.clock.level < min 1000 (be2 t1 t0) then .night else .day)).reply
        0x17#8 tag (decide (1000 < be2 t1 t0 ∨ 200 < h.toNat)))) ∧
  ∀ s : State, ∃ t, exec .clockStep s = .next t ∧
    t.clock.phase =
      (match s.clock.phase with
        | .day => if t.clock.level < s.clock.threshold then .night else .day
        | .night => if s.clock.threshold + s.clock.hysteresis ≤ t.clock.level then .day else .night) ∧
    (s.Listening → t.clock.phase ≠ s.clock.phase →
      t.Tells (.clock (if t.clock.phase = Phase.night then .dusk t.clock.level else .dawn t.clock.level)))

/-- SYNC_MODE changes the mode with its sync state and pin; CLOCK_MARK makes a leader pulse once, a pulse in progress standing for
both, and is refused elsewhere; SYNC_PULSE_END returns the pin low, or releases it outside LEADER (R14 to R16). That SYNC_PULSE_END
changes nothing where no pulse is in progress is the model's choice (log 3). -/
def Obligations.SyncModeAndPulses : Prop :=
  (∀ (tag : Byte) (m : SyncMode) (s : State), s.canTake ⟨0x15#8, tag, [byte1 m.code]⟩ = true →
    exec (.syncMode tag [byte1 m.code]) s =
      .next
        ((if s.clock.mode = m then s.taken
          else
            { s.taken with
              clock :=
                { s.clock with
                  mode := m
                  sync := if m = .follower then .seeking else .idle
                  advance := if m = .follower then 0 else s.clock.advance
                  pin :=
                    if s.clock.pin = .high then .high else if m = .leader then .low else .undriven } }).reply
          0x15#8 tag false)) ∧
  (∀ (tag mode : Byte) (s : State), s.canTake ⟨0x15#8, tag, [mode]⟩ = true → 2 < mode.toNat →
    exec (.syncMode tag [mode]) s = .next (s.taken.answer 0x15#8 tag .badArgument [])) ∧
  (∀ (tag : Byte) (s : State), s.canTake ⟨0x16#8, tag, []⟩ = true → s.clock.mode = .leader → s.clock.pin ≠ .high →
    exec (.clockMark tag []) s =
      .next ({ s.taken with clock := { s.clock with pin := .high, pulseUs := 1000 } }.reply 0x16#8 tag false)) ∧
  (∀ (tag : Byte) (s : State), s.canTake ⟨0x16#8, tag, []⟩ = true → s.clock.mode = .leader → s.clock.pin = .high →
    exec (.clockMark tag []) s = .next (s.taken.reply 0x16#8 tag false)) ∧
  (∀ (tag : Byte) (s : State), s.canTake ⟨0x16#8, tag, []⟩ = true → s.clock.mode ≠ .leader →
    exec (.clockMark tag []) s = .next (s.taken.answer 0x16#8 tag .stateConflict [])) ∧
  (∀ s : State, s.clock.pin = .high →
    exec .syncPulseEnd s =
      .next { s with clock := { s.clock with pin := if s.clock.mode = .leader then .low else .undriven, pulseUs := 0 } }) ∧
  ∀ s : State, s.clock.pin ≠ .high → exec .syncPulseEnd s = .next s

/-- The clock step by its stages (R2, R3, R15, R18): the hold timer, the advance with the day wrap and the follower's count, the scan
followed by the drain (R29, R32), and the leader pulse. HOLD_END and SYNC_LOST are the clock steps at which those counts run out (log 4). -/
def Obligations.ClockStepWorksItsStages : Prop :=
  (∀ s : State, s.service.state = .normal →
    s.clock.state = .running ∨ (s.clock.state = .held ∧ s.clock.holdRunning = true ∧ s.clock.holdMs ≤ 100) →
    ∃ t, exec .clockStep s = .next t ∧ t.clock.state = .running ∧
      (s.clock.state = .held → t.clock.holdRunning = false ∧ t.clock.holdMs = 0) ∧
      t.clock.time = (s.clock.time + s.clock.rate) % 864000 ∧
      t.clock.days = (if 864000 ≤ s.clock.time + s.clock.rate then (s.clock.days + 1) % 65536 else s.clock.days) ∧
      t.clock.advance =
        (if s.clock.mode = .follower then min 1200 (s.clock.advance + s.clock.rate) else s.clock.advance) ∧
      t.clock.sync =
        (if s.clock.mode = .follower ∧ 1200 ≤ s.clock.advance + s.clock.rate ∧
            (s.clock.sync = .seeking ∨ s.clock.sync = .locked) then .lost
         else s.clock.sync) ∧
      t.clock.pin =
        (if s.clock.mode = .leader ∧ s.clock.time / 600 < (s.clock.time + s.clock.rate) / 600 then .high else s.clock.pin)) ∧
  (∀ s : State, s.service.state = .normal → s.clock.state = .held → s.clock.holdRunning = true → 100 < s.clock.holdMs →
    ∃ t, exec .clockStep s = .next t ∧ t.clock.state = .held ∧ t.clock.holdRunning = true ∧
      t.clock.holdMs = s.clock.holdMs - 100 ∧ t.clock.time = s.clock.time) ∧
  (∀ s : State, s.service.state ≠ .normal ∨ s.clock.state = .stopped ∨ (s.clock.state = .held ∧ s.clock.holdRunning = false) →
    ∃ t, exec .clockStep s = .next t ∧ t.clock.state = s.clock.state ∧ t.clock.holdMs = s.clock.holdMs ∧
      t.clock.time = s.clock.time ∧ t.clock.days = s.clock.days ∧ t.clock.advance = s.clock.advance ∧
      t.clock.sync = s.clock.sync ∧ t.clock.pin = s.clock.pin) ∧
  (∀ s : State, ∃ t, exec .clockStep s = .next t ∧ t.clock.curve = s.clock.curve ∧ t.clock.rate = s.clock.rate ∧
    t.clock.mode = s.clock.mode ∧
    t = { s with clock := t.clock, due := t.due, dispatcher := t.dispatcher, link := t.link } ∧
    let advanced := { s with clock := { s.clock with time := t.clock.time } }
    t.clock.scan = advanced.scan.clock.scan ∧ t.due = advanced.scan.drain.due ∧
      t.dispatcher = advanced.scan.drain.dispatcher) ∧
  (∀ s : State, s.service.state = .normal → s.clock.state = .held → s.clock.holdRunning = true →
    ∃ t, exec .holdEnd s = .next t ∧ t.clock.state = .running ∧ t.clock.holdRunning = false ∧ t.clock.holdMs = 0 ∧
      t.clock.time = (s.clock.time + s.clock.rate) % 864000 ∧
      (s.Listening → ⟨s.clock.time / 10, .clock .holdEnd⟩ ∈ t.link.notices)) ∧
  (∀ s : State, s.service.state = .normal → s.clock.mode = .follower → s.clock.state = .running →
    s.clock.sync = .seeking ∨ s.clock.sync = .locked →
    ∃ t, exec .syncLost s = .next t ∧ t.clock.sync = .lost ∧ t.clock.advance = 1200 ∧
      t.clock.time = (s.clock.time + s.clock.rate) % 864000 ∧ (s.Listening → t.Tells (.clock .syncLost))) ∧
  ∀ s : State, s.service.state ≠ .normal → exec .holdEnd s = .next s ∧ exec .syncLost s = .next s

/-- A rising edge on SYNC snaps a follower that is RUNNING in NORMAL to the nearest whole minute, a forward change being scanned and a
backward one not, recomputes D, re-evaluates the phase with hysteresis, and locks it; elsewhere the edge changes nothing (R12, R17). -/
def Obligations.SyncEdgeSnapsToTheMinute : Prop :=
  (∀ s : State, s.clock.mode = .follower → s.clock.state = .running → s.service.state = .normal → s.clock.time < 864000 →
    ∃ t, exec .syncEdge s = .next t ∧ t.clock.time % 600 = 0 ∧
      t.clock.time =
        (if s.clock.time % 600 < 300 then s.clock.time - s.clock.time % 600
         else (s.clock.time + (600 - s.clock.time % 600)) % 864000) ∧
      t.clock.days = (if 863700 ≤ s.clock.time then (s.clock.days + 1) % 65536 else s.clock.days) ∧
      (s.clock.time % 600 < 300 → t.clock.scan = s.clock.scan ∧ t.due = s.due) ∧
      (300 ≤ s.clock.time % 600 →
        t.clock.scan =
          (if 1 ≤ (t.clock.time + 864000 - s.clock.scan) % 864000 ∧ (t.clock.time + 864000 - s.clock.scan) % 864000 ≤ 432000 then
            t.clock.time
          else s.clock.scan) ∧
        t.due = { s with clock := { s.clock with time := t.clock.time } }.scan.due) ∧
      t.clock.advance = 0 ∧ t.clock.sync = .locked ∧ t.clock.level = daylight s.clock.curve (t.clock.time / 10) ∧
      t.clock.phase =
        (match s.clock.phase with
          | .day => if t.clock.level < s.clock.threshold then .night else .day
          | .night => if s.clock.threshold + s.clock.hysteresis ≤ t.clock.level then .day else .night) ∧
      (s.Listening → t.clock.phase ≠ s.clock.phase →
        t.Tells (.clock (if t.clock.phase = Phase.night then .dusk t.clock.level else .dawn t.clock.level))) ∧
      (s.Listening → 863700 ≤ s.clock.time → t.Tells (.clock (.day t.clock.days))) ∧
      t.clock.state = .running ∧ t.clock.mode = .follower ∧
      (s.Listening → s.clock.sync = .seeking ∨ s.clock.sync = .lost →
        t.Tells (.clock (.syncLocked (s.clock.time % 600)))) ∧
      t = { s with clock := t.clock, due := t.due, link := t.link }) ∧
  ∀ s : State, s.clock.mode ≠ .follower ∨ s.clock.state ≠ .running ∨ s.service.state ≠ .normal → exec .syncEdge s = .next s

/-! ## Queries -/

/-- Every query is answered OK with its report, the fields of section 11.4 in their order with the codes of section 11.5 (the last
clauses, the results of every reply, the roles' parameters and the uses' objects among them), and changes nothing but the link;
CHAIN_QUERY with the clear flag clears its two counts (R21, R27, R64, R80, R101, R122, R147, R158, R169, R183). What a field of an
unused or absent item holds (log 17), whole milliseconds where the model keeps microseconds (log 10), the retry phase WAITING
outside FAULT (log 31), and the remaining time of a READY discharge unit as its item holds it (log 33), are the model's choices. -/
def Obligations.QueriesReportAndChangeNothing : Prop :=
  (∀ (tag : Byte) (s : State), s.StoresSound → (∀ b : Fin 16, s.blocks[b].waiting.length ≤ 8) →
    (∀ first : Byte, s.canTake ⟨0x18#8, tag, [first]⟩ = true →
      ∃ data, data.length = 28 + 3 * min 11 (s.clock.curve.length - first.toNat) ∧
        data =
          fields
            ([(1, s.clock.state.code), (3, s.clock.time), (2, s.clock.rate), (2, s.clock.days), (3, s.clock.holdMs),
                (1, s.clock.holdRunning.toNat), (3, s.clock.scan), (2, s.clock.level), (1, s.clock.phase.code),
                (2, s.clock.threshold), (1, s.clock.hysteresis), (1, s.clock.mode.code), (1, s.clock.sync.code),
                (2, s.clock.advance), (1, s.clock.curve.length), (1, first.toNat),
                (1, min 11 (s.clock.curve.length - first.toNat))] ++
              ((s.clock.curve.drop first.toNat).take 11).map fun q => (3, q.minute * 4096 + q.level)) ∧
        exec (.clockQuery tag [first]) s = .next (s.taken.answer 0x18#8 tag .ok data)) ∧
    (∀ (position : Byte) (c : Cue), s.canTake ⟨0x1D#8, tag, [position]⟩ = true → s.cues[position.toNat]? = some c →
      ∃ data, data.length = 11 + c.action.payload.length ∧
        data =
          fields
              [(1, s.cues.length), (1, s.due.length), (1, s.dispatcher.actions.length), (1, c.id), (3, c.time),
                (1, c.enabled.toNat), (1, (decide (c.id ∈ s.due)).toNat), (1, c.action.kind.toNat),
                (1, c.action.payload.length)] ++
            c.action.payload ∧
        exec (.cueQuery tag [position]) s = .next (s.taken.answer 0x1D#8 tag .ok data)) ∧
    (∀ c : Fin 128, s.canTake ⟨0x23#8, tag, [0, byte1 c]⟩ = true →
      let x := s.lighting.channels[c]
      ∃ data, data.length = 42 ∧
        data =
          fields [(1, x.role.code)] ++ x.role.params ++
            fields
              [(1, orNone (x.group.map Fin.val)), (1, x.response.code), (1, x.service.toNat), (2, x.fade.start), (2, x.fade.stop),
                (2, x.fade.total), (2, x.fade.elapsed), (1, x.switching.code), (2, x.remaining), (3, x.position), (2, x.held),
                (2, x.base), (2, x.scaled), (2, x.level), (2, x.output),
                (1, if c.val < 32 then 255 else (decide (c.val < 32 + 8 * s.chain.settings.modules)).toNat),
                (2, s.lighting.lfsr.toNat), (1, s.lighting.flash)] ∧
        exec (.lightQuery tag [0, byte1 c]) s = .next (s.taken.answer 0x23#8 tag .ok data)) ∧
    (∀ g : Fin 16, s.canTake ⟨0x23#8, tag, [1, byte1 g]⟩ = true →
      let x := s.lighting.groups[g]
      ∃ data, data.length = 14 ∧
        data =
          fields
            [(2, x.output), (2, x.start), (2, x.stop), (2, x.total), (2, x.elapsed),
              (1, (s.lighting.channels.toList.filter fun c => c.group = some g).length), (2, s.lighting.lfsr.toNat),
              (1, s.lighting.flash)] ∧
        exec (.lightQuery tag [1, byte1 g]) s = .next (s.taken.answer 0x23#8 tag .ok data)) ∧
    (∀ clear : Bool, s.canTake ⟨0x25#8, tag, outFlag clear⟩ = true →
      let c := s.chain
      ∃ data, data.length = 21 ∧
        data =
          fields
            [(1, c.settings.modules), (1, c.settings.clock.code), (1, c.settings.interval), (1, c.settings.handshake.toNat),
              (1, c.settings.timeoutMs), (1, c.settings.loopCheck.toNat), (1, c.settings.threshold), (1, c.state.code),
              (1, c.cause.code), (1, c.retrying.toNat), (2, c.retryUs / 1000), (1, c.pointer),
              (1, if c.state = .sending ∨ (c.state = .fault ∧ c.retrying = true) then c.retrying.toNat else 255),
              (1, c.previousValid.toNat), (1, c.mismatch), (2, c.cumulative), (2, c.late), (1, c.failed)] ∧
        exec (.chainQuery tag (outFlag clear)) s =
          .next ((if clear then { s.taken with chain := { s.chain with cumulative := 0, late := 0 } } else s.taken).answer
            0x25#8 tag .ok data)) ∧
    (∀ d : Fin 4, s.canTake ⟨0x35#8, tag, [byte1 d]⟩ = true →
      let x := s.drives[d]
      let normal := (decide (s.service.state = .normal)).toNat
      ∃ data, data.length = 48 ∧ exec (.driveQuery tag [byte1 d]) s = .next (s.taken.answer 0x35#8 tag .ok data) ∧
        (x.kind = .unconfigured →
          data =
            fields [(1, 0)] ++ List.replicate 13 0xFF#8 ++ fields [(2, x.kp), (2, x.ki)] ++ List.replicate 4 0xFF#8 ++
              fields [(1, orNone (x.bound.map Fin.val))] ++ List.replicate 25 0xFF#8) ∧
        (∀ r, x.kind = .rotary r →
          data =
            fields
              [(1, 1), (1, r.ppr), (1, r.unit.code), (2, r.dutyMax), (1, r.ramp), (2, r.creep), (2, r.stallDuty), (2, r.stallMs),
                (1, r.homeS), (1, r.rideEnd.code), (2, x.kp), (2, x.ki), (1, r.state.code), (2, x.duty), (1, x.direction.code),
                (1, orNone (x.bound.map Fin.val)), (1, normal), (2, r.target), (2, r.setpoint), (2, (r.integral % 65536).toNat),
                (2, r.speed), (1, r.history.length), (3, r.history.sum), (1, r.stall), (3, r.durationMs),
                (1, r.durationRunning.toNat), (3, r.homeMs), (1, r.homeRunning.toNat),
                (2, if r.state = .homing then r.target else 65535),
                (1, (decide (r.state = .homing ∧ r.setpoint = r.target ∧ s.service.state = .normal)).toNat)]) ∧
        ∀ v, x.kind = .traverse v →
          (∀ e : End, ∀ i j : Fin 16, s.inputs[i].use = endUse d e → s.inputs[j].use = endUse d e → i = j) →
          let isLevel : End → Nat → Prop := fun e n =>
            (∀ i : Fin 16, s.inputs[i].use = endUse d e → n = s.inputs[i].level.toNat) ∧
              ((∀ i : Fin 16, s.inputs[i].use ≠ endUse d e) → n = 255)
          ∃ opened closed : Nat, isLevel .opened opened ∧ isLevel .closed closed ∧
            data =
              fields [(1, 2), (2, v.travelDuty), (2, v.timeoutMs)] ++ List.replicate 9 0xFF#8 ++
                fields
                  [(2, x.kp), (2, x.ki), (1, v.state.code), (2, x.duty), (1, x.direction.code),
                    (1, orNone (x.bound.map Fin.val)), (1, normal), (2, v.travelMs), (1, v.travelRunning.toNat), (1, opened),
                    (1, closed)] ++
                List.replicate 19 0xFF#8) ∧
    (∀ b : Fin 16, s.canTake ⟨0x45#8, tag, [byte1 b]⟩ = true →
      let k := s.blocks[b]
      ∃ data, data.length = 33 ∧
        data =
          fields
              [(1, k.configured.toNat), (1, k.onMs), (1, k.offMs / 10), (1, k.approachSpeed), (1, k.approachMs / 100),
                (1, k.transitS), (1, k.detector.toNat), (1, k.occupied.toNat), (2, k.debounceUs / 1000), (1, k.reservation.code),
                (1, orNone (k.holder.map Fin.val))] ++
            (match k.grant with
              | some g =>
                fields
                    ([(1, g.src.val), (1, g.dst.val), (1, g.needs.length)] ++
                      g.needs.flatMap fun n => [(1, n.turnout.val), (1, n.position.code)]) ++
                  List.replicate (4 - 2 * g.needs.length) 0xFF#8
              | none => List.replicate 7 0xFF#8) ++
            fields
              ([(1, k.polarity.code),
                  (1, if k.reservation = .reserved ∧ ∀ h, k.holder = some h → s.trains[h].head ≠ some b then 0 else 1),
                  (2, s.blockDuty b), (1, k.waiting.length)] ++
                k.waiting.map fun t => (1, t.val)) ++
            List.replicate (8 - k.waiting.length) 0xFF#8 ++ fields [(1, s.paths.length)] ∧
        exec (.blockQuery tag [byte1 b]) s = .next (s.taken.answer 0x45#8 tag .ok data)) ∧
    (∀ t : Fin 8, s.canTake ⟨0x46#8, tag, [byte1 t]⟩ = true →
      let x := s.turnouts[t]
      ∃ data, data.length = 14 ∧
        data =
          fields
            [(1, (x.position.map Points.code).getD 0), (1, if x.firing ≠ none then 2 else if x.queued ≠ none then 1 else 0),
              (1, orNone (x.queued.map Points.code)), (1, orNone (x.firing.map Points.code)), (1, x.locks),
              (1, orNone (x.lockedAt.map Points.code)), (1, x.pulseMs),
              (1, if t ∈ s.throwQueue then s.throwQueue.idxOf t else 255), (1, s.cdu.state.code), (2, s.cdu.leftUs / 1000),
              (2, s.cdu.rechargeMs), (1, s.throwQueue.length)] ∧
        exec (.turnoutQuery tag [byte1 t]) s = .next (s.taken.answer 0x46#8 tag .ok data)) ∧
    (∀ t : Fin 8, s.canTake ⟨0x4D#8, tag, [byte1 t]⟩ = true →
      let x := s.trains[t]
      let held : Option (Fin 16) → List (Nat × Nat) := fun k =>
        match k with
        | some k => [(1, k.val), (1, s.blocks[k].reservation.code), (1, s.blocks[k].occupied.toNat)]
        | none => [(1, 255), (1, 255), (1, 255)]
      ∃ data, data.length = 44 ∧
        data =
          fields
              ([(1, x.state.code), (1, x.cause.code)] ++ held x.head ++ held x.tail ++ held x.next ++
                [(1, (decide (x.tail = none ∧ (∃ h : Fin 16, x.head = some h ∧ s.blocks[h].occupied = false) ∧
                    ∃ n : Fin 16, x.next = some n ∧ s.blocks[n].reservation = .reserved)).toNat),
                  (1, x.route.length)] ++
                x.route.map fun b => (1, b.val)) ++
            List.replicate (12 - x.route.length) 0xFF#8 ++
            fields
              [(1, x.speed), (1, s.target t), (1, x.step), (1, x.accel), (1, x.decel), (2, x.kick), (2, x.ramp),
                (1, x.stopPending.toNat), (1, x.phase.code), (2, x.approachMs), (3, x.progressMs),
                (1, orNone (x.head.map fun h => s.blocks[h].transitS)), (1, orNone (x.waitingFor.map Fin.val)),
                (1, orNone (x.waitingFor.map fun b => s.blocks[b].waiting.idxOf t))] ∧
        exec (.trainQuery tag [byte1 t]) s = .next (s.taken.answer 0x4D#8 tag .ok data)) ∧
    (∀ c : Fin 2, s.canTake ⟨0x52#8, tag, [byte1 c]⟩ = true →
      let k := s.crossings[c]
      ∃ data, data.length = 12 ∧
        data =
          fields
            [(1, (decide (k.block ≠ none)).toNat), (1, orNone (k.block.map Fin.val)), (1, orNone (k.barrier.map Fin.val)),
              (2, k.warningMs), (1, orNone (k.state.map CrossingState.code)), (2, k.timerUs / 1000), (1, k.timerRunning.toNat),
              (1, orNone (k.block.map fun b => s.blocks[b].reservation.code)),
              (1, orNone (k.block.bind fun b => s.blocks[b].holder.map Fin.val)),
              (1, orNone (k.barrier.bind fun d =>
                match s.drives[d].kind with
                | .unconfigured => none
                | .rotary r => some r.state.code
                | .traverse v => some v.state.code))] ∧
        exec (.crossingQuery tag [byte1 c]) s = .next (s.taken.answer 0x52#8 tag .ok data)) ∧
    ∀ i : Fin 16, s.canTake ⟨0x5A#8, tag, [byte1 i]⟩ = true →
      let x := s.inputs[i]
      ∃ data, data.length = 34 ∧
        data =
          fields [(1, x.trigger.code), (1, x.debounceMs), (1, x.use.code)] ++ x.use.object ++
            fields
              [(1, x.pin.toNat), (1, x.level.toNat), (1, x.active.toNat),
                (1, (decide (x.trigger ≠ .never ∧ x.rearmRunning = false)).toNat), (3, x.rearmUs / 1000),
                (1, (decide (x.action ≠ none)).toNat)] ++
            (match x.action with
              | some a =>
                fields [(1, a.kind.toNat), (1, a.payload.length)] ++ a.payload ++ List.replicate (12 - a.payload.length) 0xFF#8
              | none => List.replicate 14 0xFF#8) ++
            fields
              [(1, x.rearmS), (1, x.notice.toNat), (1, s.service.state.code), (1, s.service.cause.code), (1, s.door.level.toNat),
                (1, s.service.autoResumeS), (2, s.service.resumeUs / 1000)] ∧
        exec (.inputQuery tag [byte1 i]) s = .next (s.taken.answer 0x5A#8 tag .ok data)) ∧
  [ClockState.stopped, .running, .held].map ClockState.code = [0, 1, 2] ∧ [Phase.day, .night].map Phase.code = [0, 1] ∧
  [SyncMode.alone, .leader, .follower].map SyncMode.code = [0, 1, 2] ∧
  [SyncState.idle, .seeking, .locked, .lost].map SyncState.code = [0, 1, 2, 3] ∧
  [Response.linear, .square].map Response.code = [0, 1] ∧ [NightMode.followPhase, .thresholds].map NightMode.code = [0, 1] ∧
  [Switching.off, .pendingOn, .on, .pendingOff].map Switching.code = [0, 1, 2, 3] ∧
  [Aspect.clear, .stop].map Aspect.code = [0, 1] ∧
  [ChainClock.khz125, .khz250, .khz500, .khz1000].map ChainClock.code = [0, 1, 2, 3] ∧
  [ChainState.off, .idle, .sending, .fault].map ChainState.code = [0, 1, 2, 3] ∧
  [ChainCause.clear, .stuckBusy, .loopError].map ChainCause.code = [0, 1, 2] ∧
  [CaptureUnit.us1, .us16, .us256].map CaptureUnit.code = [0, 1, 2] ∧ [RideEnd.ramp, .home].map RideEnd.code = [0, 1] ∧
  [RotaryState.stopped, .running, .stopping, .homing, .stalled].map RotaryState.code = [0, 1, 2, 3, 4] ∧
  [TraverseState.mid, .movingOpen, .atOpen, .movingClosed, .atClosed, .fault].map TraverseState.code = [0, 1, 2, 3, 4, 5] ∧
  [Direction.low, .high].map Direction.code = [0, 1] ∧ [End.opened, .closed].map End.code = [0, 1] ∧
  [Reservation.free, .setting, .reserved].map Reservation.code = [0, 1, 2] ∧ [Polarity.fwd, .rev].map Polarity.code = [0, 1] ∧
  [Points.normal, .diverge].map Points.code = [1, 2] ∧
  [TrainState.free, .stopped, .running, .approach, .waiting, .lost, .fault].map TrainState.code = [0, 1, 2, 3, 4, 5, 6] ∧
  [TrainCause.clear, .headClear, .timeout, .overrun, .intrusion].map TrainCause.code = [0, 1, 2, 3, 4] ∧
  [ApproachPhase.inactive, .marker, .timing, .braking].map ApproachPhase.code = [0, 1, 2, 3] ∧
  [CrossingState.opened, .warning, .closing, .closed, .opening, .fault].map CrossingState.code = [0, 1, 2, 3, 4, 5] ∧
  [Trigger.never, .rising, .falling, .change, .low, .high].map Trigger.code = [0, 1, 2, 3, 4, 5] ∧
  [ServiceState.normal, .service, .resumeWait].map ServiceState.code = [0, 1, 2] ∧
  [ServiceCause.clear, .door, .request].map ServiceCause.code = [0, 1, 2] ∧
  CduState.ready.code = 0 ∧ (∀ t, (CduState.firing t).code = 1) ∧ CduState.recharging.code = 2 ∧
  [Result.ok, .unknownKind, .badLength, .badArgument, .noSuchObject, .stateConflict, .tableFull, .locked, .noPath,
    .adjusted].map Result.code = [0, 1, 2, 3, 4, 5, 6, 7, 8, 9] ∧
  (Role.off.code = 0 ∧ Role.off.params = List.replicate 10 0xFF#8) ∧
  (Role.fixed.code = 1 ∧ Role.fixed.params = List.replicate 10 0xFF#8) ∧
  (∀ gain invert, (Role.daylight gain invert).code = 2 ∧
    (Role.daylight gain invert).params = fields [(2, gain), (1, invert.toNat)] ++ List.replicate 7 0xFF#8) ∧
  (∀ onLevel mode below above stagger warmMs, (Role.night onLevel mode below above stagger warmMs).code = 3 ∧
    (Role.night onLevel mode below above stagger warmMs).params =
      fields [(2, onLevel), (1, mode.code), (2, below), (2, above), (1, stagger), (2, warmMs)]) ∧
  (∀ lo hi cycle, (Role.flicker lo hi cycle).code = 4 ∧
    (Role.flicker lo hi cycle).params = fields [(2, lo), (2, hi), (1, cycle)] ++ List.replicate 5 0xFF#8) ∧
  (∀ level lit dark, (Role.blink level lit dark).code = 5 ∧
    (Role.blink level lit dark).params = fields [(2, level), (2, lit), (2, dark)] ++ List.replicate 4 0xFF#8) ∧
  (∀ lo hi cycle, (Role.breathe lo hi cycle).code = 6 ∧
    (Role.breathe lo hi cycle).params = fields [(2, lo), (2, hi), (2, cycle)] ++ List.replicate 4 0xFF#8) ∧
  (∀ (b : Fin 16) (a : Aspect) (level : Nat), (Role.signal b a level).code = 7 ∧
    (Role.signal b a level).params = fields [(1, b.val), (1, a.code), (2, level)] ++ List.replicate 6 0xFF#8) ∧
  (∀ (c : Fin 2) (side : Bool) (level : Nat), (Role.crossing c side level).code = 8 ∧
    (Role.crossing c side level).params = fields [(1, c.val), (1, side.toNat), (2, level)] ++ List.replicate 6 0xFF#8) ∧
  (Use.general.code = 0 ∧ Use.general.object = [0xFF#8]) ∧
  (∀ b : Fin 16, (Use.stopMarker b).code = 1 ∧ (Use.stopMarker b).object = [byte1 b]) ∧
  ∀ d : Fin 4, ((Use.index d).code = 2 ∧ (Use.index d).object = [byte1 d]) ∧
    ((Use.endOpen d).code = 3 ∧ (Use.endOpen d).object = [byte1 d]) ∧ (Use.endClosed d).code = 4 ∧
    (Use.endClosed d).object = [byte1 d]

/-! ## Cues and stored actions (chapter 2) -/

/-- CUE_ADD puts the record into the cue list in the order of time and id, replacing the record of the same id and dropping that id
from the due list; a full list refuses a new id (R22 to R24). -/
def Obligations.CueAddKeepsTheOrder : Prop :=
  (∀ (tag id t2 t1 t0 kind : Byte) (enabled : Bool) (action : List Byte) (s : State),
    s.CuesSound → be3 t2 t1 t0 ≤ 86399 → storable kind action = true →
    (s.cues.length < 64 ∨ ∃ c ∈ s.cues, c.id = id.toNat) →
    s.canTake ⟨0x1A#8, tag, [id, t2, t1, t0] ++ outFlag enabled ++ [kind, byte1 action.length] ++ action⟩ = true →
    ∃ cues : List Cue, cues.Perm (⟨id.toNat, be3 t2 t1 t0, enabled, ⟨kind, action⟩⟩ :: s.cues.filter (fun c => c.id != id.toNat)) ∧
      cues.Pairwise (fun a b => a.time < b.time ∨ (a.time = b.time ∧ a.id < b.id)) ∧
      exec (.cueAdd tag ([id, t2, t1, t0] ++ outFlag enabled ++ [kind, byte1 action.length] ++ action)) s =
        .next ({ s.taken with cues := cues, due := s.due.filter (fun x => x != id.toNat) }.reply 0x1A#8 tag false)) ∧
  ∀ (tag id t2 t1 t0 kind : Byte) (enabled : Bool) (action : List Byte) (s : State),
    be3 t2 t1 t0 ≤ 86399 → storable kind action = true → 64 ≤ s.cues.length → (∀ c ∈ s.cues, c.id ≠ id.toNat) →
    s.canTake ⟨0x1A#8, tag, [id, t2, t1, t0] ++ outFlag enabled ++ [kind, byte1 action.length] ++ action⟩ = true →
    exec (.cueAdd tag ([id, t2, t1, t0] ++ outFlag enabled ++ [kind, byte1 action.length] ++ action)) s =
      .next (s.taken.answer 0x1A#8 tag .tableFull [])

/-- CUE_REMOVE removes one cue with its due entry, or all of them, and never an action on the action queue; CUE_ENABLE sets the flag,
disabling also dropping the due entry (R25, R26). -/
def Obligations.CuesAreRemovedAndEnabled : Prop :=
  (∀ (tag id : Byte) (s : State), s.canTake ⟨0x1B#8, tag, [0, id]⟩ = true → (∃ c ∈ s.cues, c.id = id.toNat) →
    exec (.cueRemove tag [0, id]) s =
      .next ({ s.taken with
        cues := s.cues.filter (fun c => c.id != id.toNat), due := s.due.filter (fun x => x != id.toNat) }.reply
        0x1B#8 tag false)) ∧
  (∀ (tag id : Byte) (s : State), s.canTake ⟨0x1B#8, tag, [0, id]⟩ = true → (∀ c ∈ s.cues, c.id ≠ id.toNat) →
    exec (.cueRemove tag [0, id]) s = .next (s.taken.answer 0x1B#8 tag .noSuchObject [])) ∧
  (∀ (tag id : Byte) (s : State), s.canTake ⟨0x1B#8, tag, [1, id]⟩ = true →
    exec (.cueRemove tag [1, id]) s = .next ({ s.taken with cues := [], due := [] }.reply 0x1B#8 tag false)) ∧
  (∀ (tag selector id : Byte) (s : State), s.canTake ⟨0x1B#8, tag, [selector, id]⟩ = true → 1 < selector.toNat →
    exec (.cueRemove tag [selector, id]) s = .next (s.taken.answer 0x1B#8 tag .badArgument [])) ∧
  ∀ (tag id : Byte) (on : Bool) (s : State), s.canTake ⟨0x1C#8, tag, id :: outFlag on⟩ = true → (∃ c ∈ s.cues, c.id = id.toNat) →
    exec (.cueEnable tag (id :: outFlag on)) s =
      .next ({ s.taken with
        cues := s.cues.map fun (c : Cue) => if c.id = id.toNat then { c with enabled := on } else c
        due := if on then s.due else s.due.filter (fun x => x != id.toNat) }.reply 0x1C#8 tag false)

/-- A scan finds exactly the enabled cues whose time the interval from the scan position to the model time crosses, and appends those
not yet due in the order in which model time passes them; otherwise it changes nothing (R29, R30). A drain in NORMAL hands the first
eight due actions to the action queue in order (R32, R33). -/
def Obligations.ScanAndDrainFollowTheDay : Prop :=
  (∀ s : State, s.CuesSound → (∀ c ∈ s.cues, c.time ≤ 86399) → s.clock.scan < 864000 → s.clock.time < 864000 →
    1 ≤ (s.clock.time + 864000 - s.clock.scan) % 864000 → (s.clock.time + 864000 - s.clock.scan) % 864000 ≤ 432000 →
    ∃ crossed : List Cue,
      (∀ c : Cue, c ∈ crossed ↔ c ∈ s.cues ∧ c.enabled = true ∧ c.id ∉ s.due ∧
        1 ≤ (c.time * 10 + 864000 - s.clock.scan) % 864000 ∧
        (c.time * 10 + 864000 - s.clock.scan) % 864000 ≤ (s.clock.time + 864000 - s.clock.scan) % 864000) ∧
      crossed.Pairwise (fun a b =>
        (a.time * 10 + 864000 - s.clock.scan) % 864000 < (b.time * 10 + 864000 - s.clock.scan) % 864000 ∨
          (a.time = b.time ∧ a.id < b.id)) ∧
      s.scan = { s with due := s.due ++ crossed.map Cue.id, clock := { s.clock with scan := s.clock.time } }) ∧
  (∀ s : State, (s.clock.time + 864000 - s.clock.scan) % 864000 = 0 ∨ 432000 < (s.clock.time + 864000 - s.clock.scan) % 864000 →
    s.scan = s) ∧
  (∀ s : State, s.CuesSound → s.service.state = .normal → s.dispatcher.actions.length ≤ 8 →
    s.drain =
      { s with
        due := s.due.drop 8
        dispatcher :=
          { s.dispatcher with
            actions :=
              s.dispatcher.actions ++
                (s.due.take 8).filterMap fun id =>
                  (s.cues.find? fun (c : Cue) => c.id == id).map fun (c : Cue) => ⟨.cue id, c.action⟩ } }) ∧
  ∀ s : State, s.service.state ≠ .normal → s.drain = s

/-- The dispatcher takes the head of the action queue in NORMAL and performs it as a request of its kind without a reply: a stored action
of any kind but SAY does exactly what the host's request does, a result other than OK and ADJUSTED being reported by ACTION_FAILED, and a
stored SAY names its source; a LIGHT_SET is written out; in service the queue stands (R34 to R37). -/
def Obligations.StoredActionsArePerformedWithoutReply : Prop :=
  (∀ (e : ActionEntry) (rest : List ActionEntry) (s : State), s.dispatcher.actions = e :: rest → s.dispatcher.busy = none →
    s.service.state = .normal → storable e.action.kind e.action.payload = true →
    ∃ t, exec .storedActionPerform s = .next t ∧ t.dispatcher = ⟨rest, none⟩ ∧ t.link.replies = s.link.replies ∧
      t.link.slots = s.link.slots ∧ t.cues = s.cues ∧ t.due = s.due ∧ t.inputs = s.inputs ∧ t.service = s.service) ∧
  (∀ (source : Source) (kind tag : Byte) (payload : List Byte) (rest : List ActionEntry) (s : State),
    s.dispatcher.actions = ⟨source, ⟨kind, payload⟩⟩ :: rest → s.dispatcher.busy = none → s.service.state = .normal →
    storable kind payload = true → kind ≠ 0x07#8 → s.link.transmitter ≠ .idle → s.link.slots = [] → s.link.replies.length < 2 →
    ∃ (t : State) (result : Result) (data : List Byte),
      exec (decodeFrame kind tag payload) { s with dispatcher := ⟨[], none⟩ } = .next (t.answer kind tag result data) ∧
      result ≠ .unknownKind ∧ result ≠ .badLength ∧
      exec .storedActionPerform s =
        .next { (if result = .ok ∨ result = .adjusted then t else t.send (.actionFailed source kind result)) with
          dispatcher := ⟨rest, none⟩ }) ∧
  (∀ (source : Source) (code : Byte) (rest : List ActionEntry) (s : State),
    s.dispatcher.actions = ⟨source, ⟨0x07#8, [code]⟩⟩ :: rest → s.dispatcher.busy = none → s.service.state = .normal →
    exec .storedActionPerform s = .next ({ s with dispatcher := ⟨rest, none⟩ }.send (.say code source))) ∧
  (∀ (c : Fin 128) (l1 l0 f1 f0 : Byte) (source : Source) (rest : List ActionEntry) (s : State),
    s.dispatcher.actions = ⟨source, ⟨0x21#8, [byte1 c, l1, l0, f1, f0]⟩⟩ :: rest → s.dispatcher.busy = none →
    s.service.state = .normal → s.lighting.channels[c].role = .fixed →
    exec .storedActionPerform s =
      .next { s with
        dispatcher := ⟨rest, none⟩
        lighting :=
          { s.lighting with
            channels :=
              s.lighting.channels.set c.val
                { s.lighting.channels[c] with
                  fade := ⟨s.lighting.channels[c].fade.output, min 1000 (be2 l1 l0), be2 f1 f0 / 10, 0⟩ } } }) ∧
  (∀ (c : Fin 128) (l1 l0 f1 f0 : Byte) (source : Source) (rest : List ActionEntry) (s : State),
    s.dispatcher.actions = ⟨source, ⟨0x21#8, [byte1 c, l1, l0, f1, f0]⟩⟩ :: rest → s.dispatcher.busy = none →
    s.service.state = .normal → s.lighting.channels[c].role ≠ .fixed →
    exec .storedActionPerform s =
      .next ({ s with dispatcher := ⟨rest, none⟩ }.send (.actionFailed source 0x21#8 .stateConflict))) ∧
  ∀ s : State, s.service.state ≠ .normal → exec .storedActionPerform s = .next s

/-! ## Light channels (chapter 3) -/

/-- LIGHT_CONFIG gives a channel a role with any parameters in their ranges and restarts it (R62); LIGHT_SET starts a fade of a FIXED
channel and is refused for any other (R47); GROUP_SET starts a fade of a group scale (R63). That a BREATHE channel
starts with the held flicker level 0 is the model's reading of R62 (log 16). -/
def Obligations.LightRequestsStartRolesAndFades : Prop :=
  (∀ (tag : Byte) (c : Fin 128) (role : Role) (group : Option (Fin 16)) (response : Response) (svc : Bool) (s : State),
    role.InRange →
    s.canTake ⟨0x20#8, tag, [byte1 c, byte1 role.code] ++ outObject group ++ [byte1 response.code] ++ outFlag svc ++ role.params⟩ =
      true →
    exec (.lightConfig tag
        ([byte1 c, byte1 role.code] ++ outObject group ++ [byte1 response.code] ++ outFlag svc ++ role.params)) s =
      .next ({ s.taken with
        lighting :=
          { s.lighting with
            channels :=
              s.lighting.channels.set c.val
                { s.lighting.channels[c] with
                  role := role, group := group, response := response, service := svc, fade := ⟨0, 0, 0, 0⟩, switching := .off
                  remaining := 0, position := 0
                  held := match role with | .flicker min _ _ => min | _ => 0 } } }.reply 0x20#8 tag false)) ∧
  (∀ (tag : Byte) (c : Fin 128) (l1 l0 f1 f0 : Byte) (s : State), s.canTake ⟨0x21#8, tag, [byte1 c, l1, l0, f1, f0]⟩ = true →
    s.lighting.channels[c].role = .fixed →
    exec (.lightSet tag [byte1 c, l1, l0, f1, f0]) s =
      .next ({ s.taken with
        lighting :=
          { s.lighting with
            channels :=
              s.lighting.channels.set c.val
                { s.lighting.channels[c] with
                  fade := ⟨s.lighting.channels[c].fade.output, min 1000 (be2 l1 l0), be2 f1 f0 / 10, 0⟩ } } }.reply
        0x21#8 tag (decide (1000 < be2 l1 l0)))) ∧
  (∀ (tag : Byte) (c : Fin 128) (l1 l0 f1 f0 : Byte) (s : State), s.canTake ⟨0x21#8, tag, [byte1 c, l1, l0, f1, f0]⟩ = true →
    s.lighting.channels[c].role ≠ .fixed →
    exec (.lightSet tag [byte1 c, l1, l0, f1, f0]) s = .next (s.taken.answer 0x21#8 tag .stateConflict [])) ∧
  ∀ (tag : Byte) (g : Fin 16) (l1 l0 f1 f0 : Byte) (s : State), s.canTake ⟨0x22#8, tag, [byte1 g, l1, l0, f1, f0]⟩ = true →
    exec (.groupSet tag [byte1 g, l1, l0, f1, f0]) s =
      .next ({ s.taken with
        lighting :=
          { s.lighting with
            groups :=
              s.lighting.groups.set g.val ⟨s.lighting.groups[g].output, min 1000 (be2 l1 l0), be2 f1 f0 / 10, 0⟩ } }.reply
        0x22#8 tag (decide (1000 < be2 l1 l0)))

/-- A fade started from any record begins at its present output, moves in a straight line truncated toward zero, stays between its two
ends, and gives its end level in its N-th frame and ever after; one below 10 ms gives it at once (R44, R45). -/
def Obligations.FadesReachTheirEnds : Prop :=
  ∀ (f : Fade) (level ms n : Nat), f.Sound → level ≤ 1000 → ms ≤ 65535 →
    (n < ms / 10 →
      (((f.begin level ms).after n).output : Int) = f.output + (((level : Int) - f.output) * n).tdiv ((ms / 10 : Nat) : Int)) ∧
    (ms / 10 ≤ n → ((f.begin level ms).after n).output = level ∧ ((f.begin level ms).after n).elapsed = ms / 10) ∧
    min f.output level ≤ ((f.begin level ms).after n).output ∧ ((f.begin level ms).after n).output ≤ max f.output level ∧
    f.output ≤ 1000

/-- A lighting frame works every channel from the state it reads: its base level by its role, scaled by its group, shaped by its
response, overridden in service, and sent to its pin or its byte of the frame buffer (R42, R46, R48, R52 to R56, R59 to R61). Each
effect's position advances around its cycle, and the LFSR goes through the channels in ascending number, a draw giving a FLICKER channel
its held level and a NIGHT channel its stagger (R50 to R52, R57, R58). -/
def Obligations.LightingFrameComposesEveryChannel : Prop :=
  (∀ v : Lfsr, (draw v).toNat = (if v.toNat % 2 = 1 then v.toNat / 2 ^^^ 0xB400 else v.toNat / 2) ∧ (v ≠ 0 → draw v ≠ 0)) ∧
  ∀ (busy : Bool) (s : State), ∃ t, exec (.lightingFrame busy) s = .next t ∧
    t = { s with lighting := t.lighting, chain := t.chain } ∧ t.chain.settings = s.chain.settings ∧
    t.lighting.lfsr = s.lfsrAt 128 ∧
    (s.lighting.flash ≤ 99 → t.lighting.flash = (s.lighting.flash + 1) % 100) ∧
    (∀ g : Fin 16, t.lighting.groups[g] = s.lighting.groups[g].advance) ∧
    (∀ i : Fin 96, t.chain.buffer[i] = byte1 (t.lighting.channels[32 + i.val]'(by omega)).output) ∧
    ∀ c : Fin 128, let x := s.lighting.channels[c]; let y := t.lighting.channels[c]
      y.role = x.role ∧ y.group = x.group ∧ y.response = x.response ∧ y.service = x.service ∧
      y.base =
        min 1000
          (match x.role with
            | .off => 0
            | .fixed => x.fade.advance.output
            | .daylight gain invert => ((if invert then 1000 - s.clock.level else s.clock.level) * gain) / 1000
            | .night .. => y.fade.output
            | .flicker .. => y.held
            | .blink level lit _ => if x.position < lit then level else 0
            | .breathe lo hi p =>
              if x.position < p / 2 then lo + ((hi - lo) * x.position) / (p / 2)
              else hi - ((hi - lo) * (x.position - p / 2)) / (p - p / 2)
            | .signal b a level =>
              if (a = .clear) ↔
                  (s.blocks[b].reservation = .reserved ∧
                    ∀ h, s.blocks[b].holder = some h → s.trains[h].head ≠ some b) then level
              else 0
            | .crossing q side level =>
              if s.crossings[q].state ≠ none ∧ s.crossings[q].state ≠ some .opened ∧ (side = true ↔ 50 ≤ s.lighting.flash) then level
              else 0) ∧
      y.scaled = (y.base * (match x.group with | some g => t.lighting.groups[g].output | none => 1000)) / 1000 ∧
      y.level =
        (if s.service.state ≠ .normal ∧ x.service = true then 1000
         else match x.response with | .linear => y.scaled | .square => (y.scaled * y.scaled) / 1000) ∧
      y.output = (if c.val < 32 then y.level else (y.level * 255 + 500) / 1000) ∧
      ((∃ lo hi p, x.role = .flicker lo hi p ∧ lo ≤ hi) → x.position ≠ 0 → y.held = x.held) ∧
      (∀ lo hi p, x.role = .flicker lo hi p → lo ≤ hi → x.position = 0 → lo ≤ y.held ∧ y.held ≤ hi) ∧
      y.held =
        (match x.role with
          | .flicker lo hi _ => if x.position = 0 then lo + (draw (s.lfsrAt c)).toNat % (hi - lo + 1) else x.held
          | _ => x.held) ∧
      y.position =
        (match x.role with
          | .flicker _ _ cycle => if x.position + 1 < cycle then x.position + 1 else 0
          | .blink _ lit dark => if x.position + 1 < lit + dark then x.position + 1 else 0
          | .breathe _ _ cycle => if x.position + 1 < cycle then x.position + 1 else 0
          | _ => x.position) ∧
      ∀ onLevel mode below above stagger warmMs, x.role = .night onLevel mode below above stagger warmMs →
        x.draws s.clock = true →
        let wait := (draw (s.lfsrAt c)).toNat % (stagger * 100 + 1)
        (wait = 0 → y.switching = (if x.switching = .off then .on else .off) ∧ y.remaining = x.remaining) ∧
          (wait ≠ 0 → y.switching = (if x.switching = .off then .pendingOn else .pendingOff) ∧ y.remaining = wait)

/-- A NIGHT channel's switching in either mode (R49 to R51): it waits a stagger of 0 to 100 frames for each second, drops back where its
condition fails, and a fade with the warm time starts when the wait is over. NIGHT_STAGGER_EXPIRY and FADE_END are the frames at which
those counts run out (log 4). -/
def Obligations.NightChannelsSwitchAfterTheirStagger : Prop :=
  (∀ (busy : Bool) (c : Fin 128) (onLevel : Nat) (mode : NightMode) (below above stagger warmMs : Nat) (s : State),
    s.lighting.channels[c].role = .night onLevel mode below above stagger warmMs →
    ∃ t, exec (.lightingFrame busy) s = .next t ∧
      let x := s.lighting.channels[c]; let y := t.lighting.channels[c]
      let on := s.clock.nightOn mode below; let off := s.clock.nightOff mode above
      (on = true → x.switching = .off →
        (y.switching = .on ∧ y.fade = (x.fade.begin onLevel warmMs).advance) ∨
          (y.switching = .pendingOn ∧ 1 ≤ y.remaining ∧ y.remaining ≤ stagger * 100 ∧ y.fade = x.fade.advance)) ∧
      (on = true → x.switching = .pendingOn → 1 < x.remaining →
        y.switching = .pendingOn ∧ y.remaining = x.remaining - 1 ∧ y.fade = x.fade.advance) ∧
      (on = true → x.switching = .pendingOn → x.remaining = 1 →
        y.switching = .on ∧ y.remaining = 0 ∧ y.fade = (x.fade.begin onLevel warmMs).advance) ∧
      (on = false → x.switching = .pendingOn → y.switching = .off ∧ y.remaining = 0 ∧ y.fade = x.fade.advance) ∧
      (off = true → x.switching = .on →
        (y.switching = .off ∧ y.fade = (x.fade.begin 0 warmMs).advance) ∨
          (y.switching = .pendingOff ∧ 1 ≤ y.remaining ∧ y.remaining ≤ stagger * 100 ∧ y.fade = x.fade.advance)) ∧
      (off = true → x.switching = .pendingOff → 1 < x.remaining →
        y.switching = .pendingOff ∧ y.remaining = x.remaining - 1 ∧ y.fade = x.fade.advance) ∧
      (off = true → x.switching = .pendingOff → x.remaining = 1 →
        y.switching = .off ∧ y.remaining = 0 ∧ y.fade = (x.fade.begin 0 warmMs).advance) ∧
      (off = false → x.switching = .pendingOff → y.switching = .on ∧ y.remaining = 0 ∧ y.fade = x.fade.advance) ∧
      ((on = false ∧ x.switching = .off) ∨ (off = false ∧ x.switching = .on) →
        y.switching = x.switching ∧ y.remaining = x.remaining ∧ y.fade = x.fade.advance)) ∧
  (∀ (c : Fin 128) (onLevel : Nat) (mode : NightMode) (below above stagger warmMs : Nat) (s : State),
    s.lighting.channels[c].role = .night onLevel mode below above stagger warmMs →
    (s.clock.nightOn mode below = true → s.lighting.channels[c].switching = .pendingOn →
      ∃ t, exec (.nightStaggerExpiry c) s = .next t ∧ t.lighting.channels[c].switching = .on ∧
        t.lighting.channels[c].remaining = 0 ∧
        t.lighting.channels[c].fade = (s.lighting.channels[c].fade.begin onLevel warmMs).advance) ∧
    (s.clock.nightOff mode above = true → s.lighting.channels[c].switching = .pendingOff →
      ∃ t, exec (.nightStaggerExpiry c) s = .next t ∧ t.lighting.channels[c].switching = .off ∧
        t.lighting.channels[c].remaining = 0 ∧
        t.lighting.channels[c].fade = (s.lighting.channels[c].fade.begin 0 warmMs).advance)) ∧
  (∀ (c : Fin 128) (s : State), s.lighting.channels[c].fade.elapsed < s.lighting.channels[c].fade.total →
    (∀ onLevel mode below above stagger warmMs, s.lighting.channels[c].role ≠ .night onLevel mode below above stagger warmMs) →
    ∃ t, exec (.fadeEnd (.channel c)) s = .next t ∧
      t.lighting.channels[c].fade.elapsed = s.lighting.channels[c].fade.total ∧
      t.lighting.channels[c].fade.output = s.lighting.channels[c].fade.stop) ∧
  ∀ (g : Fin 16) (s : State), s.lighting.groups[g].elapsed < s.lighting.groups[g].total →
    ∃ t, exec (.fadeEnd (.group g)) s = .next t ∧ t.lighting.groups[g].elapsed = s.lighting.groups[g].total ∧
      t.lighting.groups[g].output = s.lighting.groups[g].stop

/-! ## The lamp chain (chapter 4) -/

/-- CHAIN_CONFIG takes any settings in their ranges (R76): outside the shifting of a byte they apply at once, an abort and a fault
cleared with them (R77, R78); during a byte the request waits for its end, where the byte is compared, the settings apply and the reply
is written (R78). Out-of-range quantities are clamped. That one taken
in the latch pulse applies at once (log 28), and that the retry phase is WAITING after it (log 31), are the model's choices. -/
def Obligations.ChainConfigAppliesAtAByteBoundary : Prop :=
  (∀ (tag : Byte) (x : ChainSettings) (s : State), x.InRange → s.canTake ⟨0x24#8, tag, x.bytes⟩ = true →
    s.chain.shiftingByte = false →
    exec (.chainConfig tag x.bytes) s =
      .next ({ s.taken with
        chain :=
          { s.chain with
            settings := x, previousValid := false, pointer := 0, wire := .quiet, retrying := false, retryRunning := false
            retryUs := 0, cause := .clear, failed := if s.chain.state = ChainState.fault then 0 else s.chain.failed
            state := if x.modules = 0 then .off else .idle } }.reply 0x24#8 tag false)) ∧
  (∀ (tag : Byte) (x : ChainSettings) (s : State), x.InRange → s.canTake ⟨0x24#8, tag, x.bytes⟩ = true →
    s.chain.shiftingByte = true →
    exec (.chainConfig tag x.bytes) s =
      .next { s.taken with dispatcher := { s.dispatcher with busy := some ⟨tag, x, false⟩ } }) ∧
  (∀ (r : Byte) (busy : Bool) (w : ChainWait) (s : State), s.chain.shiftingByte = true → s.dispatcher.busy = some w →
    exec (.chainByteDone r busy) s =
      .next ({ s with
        dispatcher := { s.dispatcher with busy := none }
        chain :=
          { s.chain with
            settings := w.settings, previousValid := false, pointer := 0, wire := .quiet, retrying := false
            retryRunning := false, retryUs := 0, cause := .clear, busyPin := busy
            failed := if s.chain.state = ChainState.fault then 0 else s.chain.failed
            state := if w.settings.modules = 0 then .off else .idle
            mismatch :=
              if s.chain.settings.loopCheck ∧ s.chain.previousValid ∧ s.chain.previous[s.chain.pointer]? ≠ some r then
                s.chain.mismatch + 1
              else s.chain.mismatch
            cumulative :=
              if s.chain.settings.loopCheck ∧ s.chain.previousValid ∧ s.chain.previous[s.chain.pointer]? ≠ some r then
                min 65535 (s.chain.cumulative + 1)
              else s.chain.cumulative } }.reply 0x24#8 w.tag w.adjusted)) ∧
  ∀ (tag interval timeout threshold : Byte) (s : State),
    s.canTake ⟨0x24#8, tag, [1, 1, interval, 0, timeout, 0, threshold]⟩ = true → s.chain.shiftingByte = false →
    ∃ t : State, exec (.chainConfig tag [1, 1, interval, 0, timeout, 0, threshold]) s =
        .next (t.reply 0x24#8 tag (decide (31 < interval.toNat ∨ timeout.toNat = 0 ∨ threshold.toNat = 0))) ∧
      t.chain.settings =
        ⟨1, .khz250, min 31 interval.toNat, false, max 1 timeout.toNat, false, max 1 threshold.toNat⟩

/-- A byte that ends is compared with the previous snapshot and followed by the latch pulse, the byte interval, the busy wait or the
next byte; the interval's end is followed by the busy test; a falling CHAIN_BUSY sends the waiting byte (R69, R70, R73). A frame end during
a transfer is counted as late and leaves the transfer as it is; in OFF and FAULT it changes nothing but the buffer (R67). That in a busy
wait BYTE_INTERVAL_END, CHAIN_BYTE_DONE and LIGHTING_FRAME with CHAIN_BUSY low end the wait as CHAIN_BUSY_LOW does is the model's choice
(log 13), and that BUSY_TIMEOUT then changes nothing is too (log 3). -/
def Obligations.ChainMovesFromByteToByte : Prop :=
  (∀ (r : Byte) (busy : Bool) (s : State), s.chain.shiftingByte = true → s.dispatcher.busy = none →
    exec (.chainByteDone r busy) s =
      .next { s with
        chain :=
          { s.chain with
            busyPin := busy
            mismatch :=
              if s.chain.settings.loopCheck ∧ s.chain.previousValid ∧ s.chain.previous[s.chain.pointer]? ≠ some r then
                s.chain.mismatch + 1
              else s.chain.mismatch
            cumulative :=
              if s.chain.settings.loopCheck ∧ s.chain.previousValid ∧ s.chain.previous[s.chain.pointer]? ≠ some r then
                min 65535 (s.chain.cumulative + 1)
              else s.chain.cumulative
            pointer := s.chain.pointer - 1
            wire :=
              if s.chain.pointer = 0 then .latching s.chain.settings.clock.bitUs
              else if s.chain.settings.interval ≠ 0 then .interval (8 * s.chain.settings.interval)
              else if s.chain.settings.handshake ∧ busy then .busyWait (s.chain.settings.timeoutMs * 1000)
              else .shifting (8 * s.chain.settings.clock.bitUs) } }) ∧
  (∀ (n : Nat) (busy : Bool) (s : State), s.chain.wire = .interval n →
    exec (.byteIntervalEnd busy) s =
      .next { s with
        chain :=
          { s.chain with
            busyPin := busy
            wire :=
              if s.chain.settings.handshake ∧ busy then .busyWait (s.chain.settings.timeoutMs * 1000)
              else .shifting (8 * s.chain.settings.clock.bitUs) } }) ∧
  (∀ (n : Nat) (s : State), s.chain.wire = .busyWait n →
    exec .chainBusyLow s =
      .next { s with chain := { s.chain with busyPin := false, wire := .shifting (8 * s.chain.settings.clock.bitUs) } }) ∧
  (∀ (n : Nat) (r : Byte) (s : State), s.chain.wire = .busyWait n →
    exec (.byteIntervalEnd false) s = exec .chainBusyLow s ∧ exec (.chainByteDone r false) s = exec .chainBusyLow s ∧
      ∃ t, exec (.lightingFrame false) s = .next t ∧ t.chain.busyPin = false ∧
        t.chain.wire = .shifting (8 * s.chain.settings.clock.bitUs) ∧ exec .busyTimeout t = .next t) ∧
  ∀ (busy : Bool) (s : State), s.chain.state ≠ .idle →
    ∃ t, exec (.lightingFrame busy) s = .next t ∧
      t.chain =
        { s.chain with
          buffer := t.chain.buffer, busyPin := busy, wire := t.chain.wire
          late := if s.chain.state = .sending then min 65535 (s.chain.late + 1) else s.chain.late } ∧
      (busy = true ∨ (∀ n, s.chain.wire ≠ .busyWait n) → t.chain.wire = s.chain.wire)

/-- A busy wait that times out aborts the transfer: from SENDING into FAULT with its notice, from a retry into another wait of a second
(R71, R75). The expiry of the retry timer starts a retry from the frame buffer, its latch ends the fault with its notice (R72, R75). That the
retry phase is WAITING after a successful retry is the model's choice (log 31). -/
def Obligations.ChainFaultsAndRetries : Prop :=
  (∀ (n : Nat) (s : State), s.chain.wire = .busyWait n → s.chain.state = .sending →
    exec .busyTimeout s =
      .next ({ s with
        chain :=
          { s.chain with
            state := .fault, cause := .stuckBusy, retrying := false, failed := 0, retryRunning := true, retryUs := 1000000
            previousValid := false, pointer := 0, wire := .quiet } }.send
        (.chain (.fault .stuckBusy s.chain.mismatch s.chain.pointer)))) ∧
  (∀ (n : Nat) (s : State), s.chain.wire = .busyWait n → s.chain.state = .fault →
    exec .busyTimeout s =
      .next { s with
        chain :=
          { s.chain with
            cause := .stuckBusy, retrying := false, failed := min 255 (s.chain.failed + 1), retryRunning := true
            retryUs := 1000000, previousValid := false, pointer := 0, wire := .quiet } }) ∧
  (∀ (busy : Bool) (s : State), s.chain.state = .fault → s.chain.retryRunning = true →
    exec (.chainRetryExpiry busy) s =
      .next { s with
        chain :=
          { s.chain with
            retrying := true, retryRunning := false, retryUs := 0, busyPin := busy, mismatch := 0
            snapshot := s.chain.buffer.toList.take (8 * s.chain.settings.modules)
            pointer := 8 * s.chain.settings.modules - 1
            wire :=
              if s.chain.settings.handshake ∧ busy then .busyWait (s.chain.settings.timeoutMs * 1000)
              else .shifting (8 * s.chain.settings.clock.bitUs) } }) ∧
  (∀ (n : Nat) (s : State), s.chain.wire = .latching n → s.chain.state = .fault →
    (s.chain.settings.loopCheck = false ∨ s.chain.previousValid = false ∨ s.chain.mismatch < s.chain.settings.threshold) →
    ∃ t, exec .chainLatch s = .next t ∧
      t =
        { { s with
          chain := { s.chain with state := .idle, cause := .clear, retrying := false, retryRunning := false, retryUs := 0 } }.send
            (.chain (.restored s.chain.failed)) with
          chain := t.chain } ∧
      t.chain =
        { s.chain with
          state := .idle, cause := .clear, retrying := false, retryRunning := false, retryUs := 0
          previous := s.chain.snapshot, previousValid := true, pointer := 0, wire := .quiet }) ∧
  ∀ (n : Nat) (s : State), s.chain.wire = .latching n → s.chain.state = .fault → s.chain.settings.loopCheck = true →
    s.chain.previousValid = true → s.chain.settings.threshold ≤ s.chain.mismatch →
    exec .chainLatch s =
      .next { s with
        chain :=
          { s.chain with
            cause := .loopError, retrying := false, failed := min 255 (s.chain.failed + 1), retryRunning := true
            retryUs := 1000000, previous := s.chain.snapshot, pointer := 0, wire := .quiet } }

/-- A whole transfer: the frame end of an IDLE chain takes the snapshot, each module's 8 bytes are shifted from the farthest channel to
the nearest and compared with the previous snapshot in the order sent, and the latch makes the snapshot the valid previous one, the
chain IDLE again, or in FAULT with LOOP_ERROR where the mismatches reach the threshold (R67 to R69, R72 to R74). -/
def Obligations.TransfersSendTheSnapshotWhole : Prop :=
  ∀ (busy : Bool) (returned : List Byte) (s : State), s.chain.state = .idle → 1 ≤ s.chain.settings.modules →
    s.chain.settings.modules ≤ 12 → s.chain.settings.handshake = false → s.chain.settings.interval = 0 →
    s.dispatcher.busy = none → returned.length = 8 * s.chain.settings.modules →
    ∃ u t, exec (.lightingFrame busy) s = .next u ∧
      execAll ((.lightingFrame busy :: returned.map fun r => .chainByteDone r busy) ++ [.chainLatch]) s = .next t ∧
      t.chain.snapshot = u.chain.buffer.toList.take (8 * s.chain.settings.modules) ∧ t.chain.previous = t.chain.snapshot ∧
      t.chain.previousValid = true ∧ t.chain.pointer = 0 ∧ t.chain.wire = .quiet ∧
      t.chain.mismatch =
        (if s.chain.settings.loopCheck ∧ s.chain.previousValid then
          ((List.range returned.length).filter fun k =>
            returned[k]? != s.chain.previous[returned.length - 1 - k]?).length
         else 0) ∧
      t.chain.state =
        (if s.chain.settings.loopCheck ∧ s.chain.previousValid ∧ s.chain.settings.threshold ≤ t.chain.mismatch then .fault
         else .idle) ∧
      (t.chain.state = .fault → t.chain.cause = .loopError ∧ t.chain.retryRunning = true ∧ t.chain.retryUs = 1000000) ∧
      t.lighting = u.lighting

/-! ## Drives (chapter 5) -/

/-- DRIVE_CONFIG starts a drive afresh in the given kind with its settings, clamped to their ranges, Kp and Ki kept; a bound drive
refuses it (R83). That a drive made UNCONFIGURED keeps its direction is the model's choice (log 19). -/
def Obligations.DriveConfigStartsTheDriveAfresh : Prop :=
  (∀ (tag : Byte) (d : Fin 4) (ppr m1 m0 ramp c1 c0 d1 d0 t1 t0 home : Byte) (unit : CaptureUnit) (e : RideEnd) (s : State),
    s.canTake ⟨0x30#8, tag, [byte1 d, 1, ppr, byte1 unit.code, m1, m0, ramp, c1, c0, d1, d0, t1, t0, home, byte1 e.code]⟩ = true →
    s.drives[d].bound = none →
    exec (.driveConfig tag [byte1 d, 1, ppr, byte1 unit.code, m1, m0, ramp, c1, c0, d1, d0, t1, t0, home, byte1 e.code]) s =
      .next ((s.taken.setDrive d
        { s.drives[d] with
          duty := 0, direction := .low
          kind :=
            .rotary
              { ppr := max 1 ppr.toNat, unit := unit, dutyMax := min 1000 (be2 m1 m0), ramp := max 1 ramp.toNat
                creep := max 1 (min 1000 (be2 c1 c0)), stallDuty := max 1 (min 1000 (be2 d1 d0))
                stallMs := max 100 (min 10000 (be2 t1 t0)), homeS := max 1 home.toNat, rideEnd := e, state := .stopped
                target := 0, setpoint := 0, integral := 0, speed := 0, counter := 0, subUs := 0, primed := false, history := []
                stall := 0, durationRunning := false, durationMs := 0, homeRunning := false, homeMs := 0 } }).reply
        0x30#8 tag
        (decide (ppr.toNat = 0 ∨ 1000 < be2 m1 m0 ∨ ramp.toNat = 0 ∨ be2 c1 c0 = 0 ∨ 1000 < be2 c1 c0 ∨ be2 d1 d0 = 0 ∨
          1000 < be2 d1 d0 ∨ be2 t1 t0 < 100 ∨ 10000 < be2 t1 t0 ∨ home.toNat = 0)))) ∧
  (∀ (tag : Byte) (d : Fin 4) (d1 d0 t1 t0 : Byte) (s : State),
    s.canTake ⟨0x30#8, tag, [byte1 d, 2, d1, d0, t1, t0]⟩ = true → s.drives[d].bound = none →
    exec (.driveConfig tag [byte1 d, 2, d1, d0, t1, t0]) s =
      .next ((s.taken.setDrive d
        { s.drives[d] with
          duty := 0, direction := .low
          kind :=
            .traverse
              { travelDuty := max 1 (min 1000 (be2 d1 d0)), timeoutMs := max 100 (min 60000 (be2 t1 t0)), state := .mid
                travelRunning := false, travelMs := 0 } }).reply
        0x30#8 tag (decide (be2 d1 d0 = 0 ∨ 1000 < be2 d1 d0 ∨ be2 t1 t0 < 100 ∨ 60000 < be2 t1 t0)))) ∧
  (∀ (tag : Byte) (d : Fin 4) (s : State), s.canTake ⟨0x30#8, tag, [byte1 d, 0]⟩ = true → s.drives[d].bound = none →
    exec (.driveConfig tag [byte1 d, 0]) s =
      .next ((s.taken.setDrive d { s.drives[d] with duty := 0, kind := .unconfigured }).reply 0x30#8 tag false)) ∧
  ∀ (tag kind : Byte) (rest : List Byte) (d : Fin 4) (s : State), driveConfigFits kind rest = true → rest.length ≤ 60 →
    s.canTake ⟨0x30#8, tag, byte1 d :: kind :: rest⟩ = true → s.drives[d].bound ≠ none →
    exec (.driveConfig tag (byte1 d :: kind :: rest)) s = .next (s.taken.answer 0x30#8 tag .stateConflict [])

/-- DRIVE_TUNE replaces Kp and Ki, clamped to 255, for a drive of any kind, and nothing else (R84); the control interval of a RUNNING
drive in NORMAL moves the setpoint by at most the ramp and works the error, the integral with its anti-windup, and the duty with the
gains the record then holds, truncating toward zero (R87, R89). -/
def Obligations.TunedGainsDriveTheSpeedLoop : Prop :=
  (∀ (tag : Byte) (d : Fin 4) (p1 p0 i1 i0 : Byte) (s : State), s.canTake ⟨0x31#8, tag, [byte1 d, p1, p0, i1, i0]⟩ = true →
    exec (.driveTune tag [byte1 d, p1, p0, i1, i0]) s =
      .next ((s.taken.setDrive d { s.drives[d] with kp := min 255 (be2 p1 p0), ki := min 255 (be2 i1 i0) }).reply
        0x31#8 tag (decide (255 < be2 p1 p0 ∨ 255 < be2 i1 i0)))) ∧
  (∀ (tag d : Byte) (p1 p0 i1 i0 : Byte) (s : State), s.canTake ⟨0x31#8, tag, [d, p1, p0, i1, i0]⟩ = true → 3 < d.toNat →
    exec (.driveTune tag [d, p1, p0, i1, i0]) s = .next (s.taken.answer 0x31#8 tag .noSuchObject [])) ∧
  ∀ (d : Fin 4) (r : Rotary) (s : State), s.drives[d].kind = .rotary r → s.service.state = .normal → r.state = .running →
    r.durationRunning = false → r.stall + 1 < r.stallMs / 50 →
    ∃ (t : State) (r' : Rotary) (raw : Int), exec .driveControlInterval s = .next t ∧ t.drives[d].kind = .rotary r' ∧
      r'.speed = (if r.history = [] then 0 else min 9999 (600000000 * r.history.length / (r.history.sum * r.unit.us * r.ppr))) ∧
      r'.setpoint = (if r.setpoint ≤ r.target then min r.target (r.setpoint + r.ramp) else max r.target (r.setpoint - r.ramp)) ∧
      let e : Int := (r'.setpoint : Int) - r'.speed
      let candidate : Int := max (-20000) (min 20000 (r.integral + e))
      raw = ((s.drives[d].kp : Int) * e + s.drives[d].ki * candidate).tdiv 64 ∧
      r'.integral = (if ((r.dutyMax : Int) < raw ∧ 0 < e) ∨ (raw < 0 ∧ e < 0) then r.integral else candidate) ∧
      (t.drives[d].duty : Int) =
        max 0 (min (r.dutyMax : Int) (((s.drives[d].kp : Int) * e + s.drives[d].ki * r'.integral).tdiv 64))

/-- DRIVE_RUN runs a ROTARY drive toward a target with or without a duration; DRIVE_STOP coasts, ramps or homes it and halts a
TRAVERSE drive; DRIVE_MOVE sends an unbound TRAVERSE drive to an end, where it stands at once if that end's input is active (R90,
R92, R93, R95 to R99). A drive that is not TRAVERSE is STATE_CONFLICT, then an end byte other than the two BAD_ARGUMENT, then a
bound drive STATE_CONFLICT; that the binding is checked after the end, as its sentence stands in R95, is the model's reading (R182;
log 32). That a timer that stops keeps no remaining time is the model's (log 33). -/
def Obligations.DriveRequestsRunStopAndMove : Prop :=
  (∀ (tag t1 t0 s1 s0 : Byte) (dir : Direction) (d : Fin 4) (r : Rotary) (s : State), s.drives[d].kind = .rotary r →
    s.canTake ⟨0x32#8, tag, [byte1 d, t1, t0, byte1 dir.code, s1, s0]⟩ = true →
    dir = s.drives[d].direction ∨ r.state = .stopped →
    exec (.driveRun tag [byte1 d, t1, t0, byte1 dir.code, s1, s0]) s =
      .next ((s.taken.setDrive d
        { s.drives[d] with
          direction := dir
          kind :=
            .rotary
              { r with
                state := .running, target := min 6000 (be2 t1 t0), durationRunning := decide (0 < be2 s1 s0)
                durationMs := min 3600 (be2 s1 s0) * 1000
                setpoint := if r.state = .stopped ∨ r.state = .stalled then 0 else r.setpoint
                integral := if r.state = .stopped ∨ r.state = .stalled then 0 else r.integral
                stall := if r.state = .stopped ∨ r.state = .stalled then 0 else r.stall
                homeRunning := if r.state = .homing then false else r.homeRunning
                homeMs := if r.state = .homing then 0 else r.homeMs } }).reply
        0x32#8 tag (decide (6000 < be2 t1 t0 ∨ 3600 < be2 s1 s0)))) ∧
  (∀ (tag t1 t0 s1 s0 : Byte) (dir : Direction) (d : Fin 4) (r : Rotary) (s : State), s.drives[d].kind = .rotary r →
    s.canTake ⟨0x32#8, tag, [byte1 d, t1, t0, byte1 dir.code, s1, s0]⟩ = true →
    dir ≠ s.drives[d].direction → r.state ≠ .stopped →
    exec (.driveRun tag [byte1 d, t1, t0, byte1 dir.code, s1, s0]) s = .next (s.taken.answer 0x32#8 tag .stateConflict [])) ∧
  (∀ (tag : Byte) (d : Fin 4) (r : Rotary) (s : State), s.drives[d].kind = .rotary r → r.state ≠ .stopped →
    s.canTake ⟨0x33#8, tag, [byte1 d, 0]⟩ = true →
    exec (.driveStop tag [byte1 d, 0]) s =
      .next ((s.taken.setDrive d
        { s.drives[d] with
          duty := 0
          kind :=
            .rotary
              { r with
                state := .stopped, target := 0, setpoint := 0, integral := 0, history := [], counter := 0, subUs := 0
                primed := false, durationRunning := false, durationMs := 0, homeRunning := false, homeMs := 0 } }).reply
        0x33#8 tag false)) ∧
  (∀ (tag : Byte) (d : Fin 4) (r : Rotary) (s : State), s.drives[d].kind = .rotary r → r.state = .running ∨ r.state = .homing →
    s.canTake ⟨0x33#8, tag, [byte1 d, 1]⟩ = true →
    exec (.driveStop tag [byte1 d, 1]) s =
      .next ((s.taken.setDrive d
        { s.drives[d] with
          kind :=
            .rotary
              { r with
                state := .stopping, target := 0, durationRunning := false, durationMs := 0, homeRunning := false
                homeMs := 0 } }).reply 0x33#8 tag false)) ∧
  (∀ (tag : Byte) (d : Fin 4) (r : Rotary) (s : State), s.drives[d].kind = .rotary r → r.state = .running →
    (∃ i : Fin 16, s.inputs[i].use = .index d) → s.canTake ⟨0x33#8, tag, [byte1 d, 2]⟩ = true →
    exec (.driveStop tag [byte1 d, 2]) s =
      .next ((s.taken.setDrive d
        { s.drives[d] with
          kind :=
            .rotary
              { r with
                state := .homing, target := min r.target r.creep, durationRunning := false, durationMs := 0
                homeRunning := true, homeMs := r.homeS * 1000 } }).reply 0x33#8 tag false)) ∧
  (∀ (tag : Byte) (mode : Fin 2) (d : Fin 4) (v : Traverse) (s : State), s.drives[d].kind = .traverse v →
    s.drives[d].bound = none → v.state = .movingOpen ∨ v.state = .movingClosed →
    s.canTake ⟨0x33#8, tag, [byte1 d, byte1 mode]⟩ = true →
    exec (.driveStop tag [byte1 d, byte1 mode]) s =
      .next ((s.taken.setDrive d
        { s.drives[d] with
          duty := 0, kind := .traverse { v with state := .mid, travelRunning := false, travelMs := 0 } }).reply
        0x33#8 tag false)) ∧
  (∀ (tag : Byte) (x : End) (d : Fin 4) (v : Traverse) (s : State), s.drives[d].kind = .traverse v → s.drives[d].bound = none →
    (∀ i : Fin 16, s.inputs[i].use = endUse d x → s.inputs[i].active = false) →
    s.canTake ⟨0x34#8, tag, [byte1 d, byte1 x.code]⟩ = true →
    exec (.driveMove tag [byte1 d, byte1 x.code]) s =
      .next ((s.taken.setDrive d
        (if v.state = x.movingState then { s.drives[d] with direction := x.direction }
         else
          { s.drives[d] with
            direction := x.direction, duty := if s.service.state = .normal then v.travelDuty else 0
            kind := .traverse { v with state := x.movingState, travelRunning := true, travelMs := v.timeoutMs } })).reply
        0x34#8 tag false)) ∧
  (∀ (tag : Byte) (x : End) (i : Fin 16) (d : Fin 4) (v : Traverse) (s : State), s.drives[d].kind = .traverse v →
    s.drives[d].bound = none → s.inputs[i].use = endUse d x → s.inputs[i].active = true →
    (∀ j : Fin 16, s.inputs[j].use = endUse d x → j = i) → s.canTake ⟨0x34#8, tag, [byte1 d, byte1 x.code]⟩ = true →
    exec (.driveMove tag [byte1 d, byte1 x.code]) s =
      .next (((s.taken.setDrive d
        { s.drives[d] with
          duty := 0, kind := .traverse { v with state := x.atState, travelRunning := false, travelMs := 0 } }).send
        (.drive d (.atEnd x))).reply 0x34#8 tag false)) ∧
  (∀ (tag e : Byte) (d : Fin 4) (s : State), (∀ v : Traverse, s.drives[d].kind ≠ .traverse v) →
    s.canTake ⟨0x34#8, tag, [byte1 d, e]⟩ = true →
    exec (.driveMove tag [byte1 d, e]) s = .next (s.taken.answer 0x34#8 tag .stateConflict [])) ∧
  (∀ (tag e : Byte) (d : Fin 4) (v : Traverse) (s : State), s.drives[d].kind = .traverse v → s.drives[d].bound ≠ none →
    e.toNat ≤ 1 → s.canTake ⟨0x34#8, tag, [byte1 d, e]⟩ = true →
    exec (.driveMove tag [byte1 d, e]) s = .next (s.taken.answer 0x34#8 tag .stateConflict [])) ∧
  ∀ (tag e : Byte) (d : Fin 4) (v : Traverse) (s : State), s.drives[d].kind = .traverse v → 1 < e.toNat →
    s.canTake ⟨0x34#8, tag, [byte1 d, e]⟩ = true →
    exec (.driveMove tag [byte1 d, e]) s = .next (s.taken.answer 0x34#8 tag .badArgument [])

/-- What runs out at a control interval in NORMAL (R88, R91, R93, R94, R96), with its notice: the stall count makes a drive STALLED, the
duration timer ends a ride by RAMP or HOME, the home timer stops a drive with HOME_MISSED, the travel timer makes a TRAVERSE drive and
its crossing FAULT. Each command is the interval at which its count runs out (log 4); in service none does. -/
def Obligations.ControlIntervalsEndStallsRidesAndTravels : Prop :=
  (∀ (d : Fin 4) (r : Rotary) (s : State), s.drives[d].kind = .rotary r → s.service.state = .normal →
    r.state = .running ∨ r.state = .stopping ∨ r.state = .homing → r.history = [] → 50 ≤ r.stallMs →
    r.stallDuty ≤ (s.drives[d].loop { r with speed := 0 }).duty →
    ∃ (t : State) (r' : Rotary), exec (.stalled d) s = .next t ∧ t.drives[d].kind = .rotary r' ∧ t.drives[d].duty = 0 ∧
      r'.state = .stalled ∧ r'.target = 0 ∧ r'.setpoint = 0 ∧ r'.integral = 0 ∧ r'.stall = 0 ∧ r'.durationRunning = false ∧
      r'.homeRunning = false ∧ r'.history = [] ∧ r'.primed = false ∧
      (s.Listening → t.Tells (.drive d (.stalled r.target (s.drives[d].loop { r with speed := 0 }).duty)))) ∧
  (∀ (d : Fin 4) (r : Rotary) (s : State), s.drives[d].kind = .rotary r → s.service.state = .normal → r.state = .running →
    r.durationRunning = true → r.stall + 1 < r.stallMs / 50 →
    ∃ (t : State) (r' : Rotary), exec (.rideEnd d) s = .next t ∧ t.drives[d].kind = .rotary r' ∧ r'.durationRunning = false ∧
      (r.rideEnd = .home → (∃ i : Fin 16, s.inputs[i].use = .index d) →
        r'.state = .homing ∧ r'.target = min r.target r.creep ∧ r'.homeRunning = true ∧ r'.homeMs = r.homeS * 1000 ∧
          (s.Listening → t.Tells (.drive d (.rideEnd .home)))) ∧
      (r.rideEnd = .ramp ∨ (∀ i : Fin 16, s.inputs[i].use ≠ .index d) →
        r'.state = .stopping ∧ r'.target = 0 ∧ r'.homeRunning = false ∧
          (s.Listening → t.Tells (.drive d (.rideEnd .ramp))))) ∧
  (∀ (d : Fin 4) (r : Rotary) (s : State), s.drives[d].kind = .rotary r → s.service.state = .normal → r.state = .homing →
    r.homeRunning = true → r.stall + 1 < r.stallMs / 50 →
    ∃ (t : State) (r' : Rotary), exec (.homeMissed d) s = .next t ∧ t.drives[d].kind = .rotary r' ∧ t.drives[d].duty = 0 ∧
      r'.state = .stopped ∧ r'.target = 0 ∧ r'.homeRunning = false ∧ r'.homeMs = 0 ∧
      (s.Listening → t.Tells (.drive d .homeMissed))) ∧
  (∀ (d : Fin 4) (v : Traverse) (x : End) (s : State), s.drives[d].kind = .traverse v → s.service.state = .normal →
    v.state = x.movingState → v.travelRunning = true →
    ∃ t : State, exec (.travelFault d) s = .next t ∧ t.drives[d].duty = 0 ∧
      t.drives[d].kind = .traverse { v with state := .fault, travelRunning := false, travelMs := 0 } ∧
      (s.Listening → t.Tells (.drive d (.travelFault x))) ∧
      ∀ c : Fin 2, s.drives[d].bound = some c → s.crossings[c].state = some .closing ∨ s.crossings[c].state = some .opening →
        t.crossings[c].state = some .fault) ∧
  (∀ (d : Fin 4) (v : Traverse) (x : End) (s : State), s.drives[d].kind = .traverse v → s.service.state = .normal →
    v.state = x.movingState → v.travelRunning = true → 50 < v.travelMs →
    ∃ t : State, exec .driveControlInterval s = .next t ∧ t.drives[d].duty = s.drives[d].duty ∧
      t.drives[d].kind = .traverse { v with travelMs := v.travelMs - 50 }) ∧
  ∀ (d : Fin 4) (s : State), s.service.state ≠ .normal →
    exec (.stalled d) s = .next s ∧ exec (.rideEnd d) s = .next s ∧ exec (.homeMissed d) s = .next s ∧
      exec (.travelFault d) s = .next s

/-- A TACH edge captures the period that the counter has reached into a history of the last four, or primes the counter; a counter that
reaches 65,535 empties the history; a drive of another kind takes no notice (R85, R86). That an edge
carries the capture units counted since the last event is the model's choice (log 14). -/
def Obligations.TachEdgesCapturePeriods : Prop :=
  (∀ (d : Fin 4) (units : Nat) (r : Rotary) (s : State), s.drives[d].kind = .rotary r → r.primed = true →
    r.counter + units < 65535 →
    exec (.tachEdge d units) s =
      .next (s.setDrive d
        { s.drives[d] with
          kind :=
            .rotary
              { r with
                history := (if r.history.length < 4 then r.history else r.history.tail) ++ [max 1 (r.counter + units)]
                counter := 0, subUs := 0 } })) ∧
  (∀ (d : Fin 4) (units : Nat) (r : Rotary) (s : State), s.drives[d].kind = .rotary r → r.primed = false →
    r.counter + units < 65535 →
    exec (.tachEdge d units) s =
      .next (s.setDrive d { s.drives[d] with kind := .rotary { r with counter := 0, subUs := 0, primed := true } })) ∧
  (∀ (d : Fin 4) (units : Nat) (r : Rotary) (s : State), s.drives[d].kind = .rotary r → 65535 ≤ r.counter + units →
    exec (.tachEdge d units) s =
      .next (s.setDrive d
        { s.drives[d] with kind := .rotary { r with history := [], counter := 0, subUs := 0, primed := true } })) ∧
  (∀ (d : Fin 4) (r : Rotary) (s : State), s.drives[d].kind = .rotary r →
    exec (.captureOverflow d) s =
      .next (s.setDrive d
        { s.drives[d] with kind := .rotary { r with history := [], counter := 65535, subUs := 0, primed := false } })) ∧
  ∀ (d : Fin 4) (units : Nat) (s : State), (∀ r, s.drives[d].kind ≠ .rotary r) →
    exec (.tachEdge d units) s = .next s ∧ exec (.captureOverflow d) s = .next s

/-! ## Blocks, paths and turnouts (chapter 6) -/

/-- BLOCK_CONFIG configures a FREE block with its settings in their ranges and is refused for a held one (R104); a detector's change
starts the debounce timer where it disagrees with the occupancy and stops it where it agrees (R105). PATH_ADD adds or replaces the
entry of its pair (R110); a grant pass follows a block's first configuration and a PATH_ADD, and gives each block that can be
granted to the first train of its waiting list (R138); PATH_CLEAR empties the table unless a block is held, and may not be stored
(R111). -/
def Obligations.BlocksAndPathsAreConfigured : Prop :=
  (∀ (tag on off speed time transit : Byte) (b : Fin 16) (s : State), s.blocks[b].reservation = .free →
    s.blocks[b].detector = s.blocks[b].occupied →
    s.canTake ⟨0x40#8, tag, [byte1 b, on, off, speed, time, transit]⟩ = true →
    ∃ u : State,
      u =
        s.taken.setBlock b
          { s.blocks[b] with
            configured := true, onMs := max 2 on.toNat, offMs := max 1 off.toNat * 10, approachSpeed := min 127 speed.toNat
            approachMs := time.toNat * 100, transitS := max 1 transit.toNat, debounceRunning := false, debounceUs := 0 } ∧
      exec (.blockConfig tag [byte1 b, on, off, speed, time, transit]) s =
        .next ((if s.blocks[b].configured then u else u.grantPass).reply 0x40#8 tag
          (decide (on.toNat < 2 ∨ off.toNat = 0 ∨ 127 < speed.toNat ∨ transit.toNat = 0))) ∧
      (s.TrackSound → s.StoresSound → s.ThrowsSound → s.BarriersSound → u.Passed u.grantPass)) ∧
  (∀ (tag on off speed time transit : Byte) (b : Fin 16) (s : State), s.blocks[b].reservation ≠ .free →
    s.canTake ⟨0x40#8, tag, [byte1 b, on, off, speed, time, transit]⟩ = true →
    exec (.blockConfig tag [byte1 b, on, off, speed, time, transit]) s = .next (s.taken.answer 0x40#8 tag .stateConflict [])) ∧
  (∀ (b : Fin 16) (sensed : Bool) (s : State), s.blocks[b].detector ≠ sensed → s.blocks[b].configured = true →
    sensed ≠ s.blocks[b].occupied → s.blocks[b].debounceRunning = false →
    exec (.blksenseChange b sensed) s =
      .next (s.setBlock b { s.blocks[b] with detector := sensed, debounceRunning := true, debounceUs := 0 })) ∧
  (∀ (b : Fin 16) (sensed : Bool) (s : State), s.blocks[b].detector ≠ sensed →
    s.blocks[b].configured = false ∨ sensed = s.blocks[b].occupied →
    exec (.blksenseChange b sensed) s =
      .next (s.setBlock b { s.blocks[b] with detector := sensed, debounceRunning := false, debounceUs := 0 })) ∧
  (∀ (b : Fin 16) (s : State), exec (.blksenseChange b s.blocks[b].detector) s = .next s) ∧
  (∀ (tag : Byte) (p : Path) (s : State), p.src ≠ p.dst → p.needs.length ≤ 2 → p.Distinct →
    s.canTake ⟨0x41#8, tag, [byte1 p.src, byte1 p.dst, byte1 p.polarity.code, byte1 p.needs.length] ++
      p.needs.flatMap (fun n => [byte1 n.turnout, byte1 n.position.code])⟩ = true →
    (∀ b : Fin 16, ∀ g ∈ s.blocks[b].grant, s.blocks[b].reservation ≠ .free → g.src ≠ p.src ∨ g.dst ≠ p.dst) →
    s.paths.length < 48 ∨ (∃ q ∈ s.paths, q.src = p.src ∧ q.dst = p.dst) →
    ∃ u : State,
      u =
        { s.taken with
          paths :=
            if ∃ q ∈ s.paths, q.src = p.src ∧ q.dst = p.dst then
              s.paths.map fun (q : Path) => if q.src = p.src ∧ q.dst = p.dst then p else q
            else s.paths ++ [p] } ∧
      exec (.pathAdd tag ([byte1 p.src, byte1 p.dst, byte1 p.polarity.code, byte1 p.needs.length] ++
          p.needs.flatMap (fun n => [byte1 n.turnout, byte1 n.position.code]))) s =
        .next (u.grantPass.reply 0x41#8 tag false) ∧
      (s.TrackSound → s.StoresSound → s.ThrowsSound → s.BarriersSound → u.Passed u.grantPass)) ∧
  (∀ (tag : Byte) (s : State), s.canTake ⟨0x42#8, tag, []⟩ = true → (∀ b : Fin 16, s.blocks[b].reservation = .free) →
    exec (.pathClear tag []) s = .next ({ s.taken with paths := [] }.reply 0x42#8 tag false)) ∧
  (∀ (tag : Byte) (b : Fin 16) (s : State), s.canTake ⟨0x42#8, tag, []⟩ = true → s.blocks[b].reservation ≠ .free →
    exec (.pathClear tag []) s = .next (s.taken.answer 0x42#8 tag .stateConflict [])) ∧
  ∀ payload : List Byte, storable 0x42#8 payload = false

/-- What a change of a block's occupancy does (R106, R119, R139 to R141, R144): an intrusion stops every train that holds a joined
block, a SETTING next block is overrun, a RESERVED next block is advanced into, a tail block is released and granted to the first
train that waits for it (R138), its crossing OPENING, or OPEN without a barrier (R154), and a head block that clears with nowhere
granted makes its train LOST. An advance into the last block of the route brings the train into APPROACH, its phase set from that
block (R142). That the approach timer, not used in phase MARKER, then holds 0 is the model's, and so is that a travel timer that
stops keeps no remaining time (log 33). -/
def Obligations.OccupancyChangesMoveOrStopTrains : Prop :=
  (∀ (b : Fin 16) (s : State), s.blocks[b].debounceRunning = true →
    ∃ t : State, exec (.occupancyChange b) s = .next t ∧ t.blocks[b].occupied = s.blocks[b].detector ∧
      t.blocks[b].debounceRunning = false ∧ t.blocks[b].debounceUs = 0) ∧
  (∀ (b : Fin 16) (s : State), s.blocks[b].debounceRunning = true → s.blocks[b].detector = true →
    s.blocks[b].reservation = .free → s.TrackSound →
    ∃ t : State, exec (.occupancyChange b) s = .next t ∧ (s.Listening → t.Tells (.intrusion b)) ∧
      ∀ x : Fin 8,
        (∃ k, (s.trains[x].tail = some k ∨ s.trains[x].head = some k ∨ s.trains[x].next = some k) ∧
          ∃ p ∈ s.paths, (p.src = k ∧ p.dst = b) ∨ (p.src = b ∧ p.dst = k)) →
        s.trains[x].state ≠ .lost → s.trains[x].state ≠ .fault →
        t.trains[x].state = .fault ∧ t.trains[x].cause = .intrusion ∧ t.trains[x].step = 0 ∧
          t.trains[x].head = s.trains[x].head ∧ t.trains[x].waitingFor = none) ∧
  (∀ (b : Fin 16) (x : Fin 8) (s : State), s.blocks[b].debounceRunning = true → s.blocks[b].detector = true →
    s.TrackSound → s.trains[x].next = some b → s.trains[x].state ≠ .lost → s.trains[x].state ≠ .fault →
    s.blocks[b].reservation = .setting →
    ∃ t : State, exec (.occupancyChange b) s = .next t ∧ t.trains[x].state = .fault ∧ t.trains[x].cause = .overrun ∧
      t.trains[x].step = 0 ∧ t.trains[x].next = some b ∧ t.blocks[b].reservation = .setting ∧ t.blocks[b].holder = some x) ∧
  (∀ (b h : Fin 16) (x : Fin 8) (s : State), s.blocks[b].debounceRunning = true → s.blocks[b].detector = true →
    s.TrackSound → s.trains[x].next = some b → s.trains[x].head = some h → s.trains[x].state ≠ .lost →
    s.trains[x].state ≠ .fault → s.blocks[b].reservation = .reserved →
    ∃ t : State, exec (.occupancyChange b) s = .next t ∧ t.trains[x].head = some b ∧
      t.trains[x].tail = (if s.blocks[h].occupied then some h else none) ∧ t.trains[x].route = s.trains[x].route.tail ∧
      t.trains[x].progressMs = 0 ∧
      (s.Listening → t.Tells (.train x (.entered b (if s.blocks[h].occupied then some h else none))))) ∧
  (∀ (b h : Fin 16) (x : Fin 8) (s : State), s.blocks[b].debounceRunning = true → s.blocks[b].detector = true →
    s.TrackSound → s.trains[x].next = some b → s.trains[x].head = some h → s.trains[x].state = .running →
    s.blocks[b].reservation = .reserved → s.trains[x].route = [b] →
    ∃ t : State, exec (.occupancyChange b) s = .next t ∧ t.trains[x].state = .approach ∧ t.trains[x].next = none ∧
      t.trains[x].step = s.trains[x].step ∧
      t.trains[x].phase =
        (if ∃ i : Fin 16, s.inputs[i].use = .stopMarker b then .marker
         else if s.blocks[b].approachMs = 0 then .braking else .timing) ∧
      t.trains[x].approachMs = (if ∃ i : Fin 16, s.inputs[i].use = .stopMarker b then 0 else s.blocks[b].approachMs)) ∧
  (∀ (b h : Fin 16) (x : Fin 8) (s : State), s.blocks[b].debounceRunning = true → s.blocks[b].detector = false →
    s.TrackSound → s.trains[x].tail = some b → s.trains[x].head = some h → s.blocks[h].occupied = true →
    s.trains[x].state ≠ .lost → s.trains[x].state ≠ .fault →
    ∃ t : State, exec (.occupancyChange b) s = .next t ∧ t.trains[x].tail = none ∧ t.trains[x].head = some h ∧
      t.blocks[b].occupied = false ∧ t.blocks[h].holder = some x ∧
      (s.blocks[b].waiting = [] → t.blocks[b].reservation = .free ∧ t.blocks[b].holder = none)) ∧
  (∀ (b h : Fin 16) (x y : Fin 8) (rest : List (Fin 8)) (p : Path) (s : State), s.blocks[b].debounceRunning = true →
    s.blocks[b].detector = false → s.TrackSound → s.StoresSound → s.LocksSound → s.PointsSound → s.trains[x].tail = some b →
    s.trains[x].head = some h → s.blocks[h].occupied = true → s.trains[x].state ≠ .lost → s.trains[x].state ≠ .fault →
    s.blocks[b].configured = true → s.blocks[b].waiting = y :: rest → p ∈ s.paths → s.trains[y].head = some p.src → p.dst = b →
    s.CanSet p → p.needs = [] ∨ (∀ k : Fin 16, k ≠ b → s.blocks[k].waiting = []) →
    ∃ t : State, exec (.occupancyChange b) s = .next t ∧ t.trains[x].tail = none ∧ t.Granted y b p rest) ∧
  (∀ (b h : Fin 16) (x : Fin 8) (c : Fin 2) (s : State), s.blocks[b].debounceRunning = true → s.blocks[b].detector = false →
    s.TrackSound → s.CrossingsSound → s.BarriersSound → s.trains[x].tail = some b → s.trains[x].head = some h →
    s.blocks[h].occupied = true → s.trains[x].state ≠ .lost → s.trains[x].state ≠ .fault → s.blocks[b].waiting = [] →
    s.crossings[c].block = some b →
    ∃ t : State, exec (.occupancyChange b) s = .next t ∧ t.blocks[b].reservation = .free ∧ s.Reopened t c) ∧
  ∀ (b : Fin 16) (x : Fin 8) (s : State), s.blocks[b].debounceRunning = true → s.blocks[b].detector = false →
    s.TrackSound → s.trains[x].head = some b → s.trains[x].tail = none → s.trains[x].state ≠ .lost →
    s.trains[x].state ≠ .fault → (∀ n : Fin 16, s.trains[x].next = some n → s.blocks[n].reservation ≠ .reserved) →
    ∃ t : State, exec (.occupancyChange b) s = .next t ∧ t.trains[x].state = .lost ∧ t.trains[x].cause = .headClear ∧
      t.trains[x].step = 0 ∧ t.trains[x].head = some b ∧
      (s.Listening → t.Tells (.train x (.lost .headClear (some b))))

/-- TURNOUT_CONFIG and CDU_CONFIG set their times in range (R112, R117); TURNOUT_SET respects the lock and queues a throw, which a READY
discharge unit fires at once in NORMAL (R114, R115, R118); the end of a pulse sets the position and starts the recharge, whose end
takes the next throw (R116). That the remaining time of a READY unit is 0 is the model's (log 33). -/
def Obligations.TurnoutsAreThrownOneAtATime : Prop :=
  (∀ (tag pulse : Byte) (t : Fin 8) (s : State), s.canTake ⟨0x43#8, tag, [byte1 t, pulse]⟩ = true →
    exec (.turnoutConfig tag [byte1 t, pulse]) s =
      .next ((s.taken.setTurnout t { s.turnouts[t] with pulseMs := max 20 (min 250 pulse.toNat) }).reply 0x43#8 tag
        (decide (pulse.toNat < 20 ∨ 250 < pulse.toNat)))) ∧
  (∀ (tag r1 r0 : Byte) (s : State), s.canTake ⟨0x47#8, tag, [r1, r0]⟩ = true →
    exec (.cduConfig tag [r1, r0]) s =
      .next ({ s.taken with cdu := { s.cdu with rechargeMs := max 100 (min 2000 (be2 r1 r0)) } }.reply 0x47#8 tag
        (decide (be2 r1 r0 < 100 ∨ 2000 < be2 r1 r0)))) ∧
  (∀ (tag : Byte) (t : Fin 8) (x : Points) (s : State), s.canTake ⟨0x44#8, tag, [byte1 t, byte1 x.code]⟩ = true →
    (s.turnouts[t].locks ≠ 0 → s.turnouts[t].lockedAt ≠ some x →
      exec (.turnoutSet tag [byte1 t, byte1 x.code]) s = .next (s.taken.answer 0x44#8 tag .locked [])) ∧
    (s.turnouts[t].locks ≠ 0 → s.turnouts[t].lockedAt = some x →
      exec (.turnoutSet tag [byte1 t, byte1 x.code]) s = .next (s.taken.reply 0x44#8 tag false)) ∧
    (s.turnouts[t].locks = 0 → s.turnouts[t].queued ≠ none →
      exec (.turnoutSet tag [byte1 t, byte1 x.code]) s =
        .next ((s.taken.setTurnout t { s.turnouts[t] with queued := some x }).reply 0x44#8 tag false)) ∧
    (s.turnouts[t].locks = 0 → s.turnouts[t].queued = none →
      s.turnouts[t].firing = some x ∨ (s.turnouts[t].firing = none ∧ s.turnouts[t].position = some x) →
      exec (.turnoutSet tag [byte1 t, byte1 x.code]) s = .next (s.taken.reply 0x44#8 tag false)) ∧
    (s.turnouts[t].locks = 0 → s.turnouts[t].queued = none → s.turnouts[t].firing ≠ some x →
      (s.turnouts[t].firing = none → s.turnouts[t].position ≠ some x) →
      s.cdu.state ≠ .ready ∨ s.service.state ≠ .normal →
      exec (.turnoutSet tag [byte1 t, byte1 x.code]) s =
        .next ({ s.taken.setTurnout t { s.turnouts[t] with queued := some x } with
          throwQueue := s.throwQueue ++ [t] }.reply 0x44#8 tag false)) ∧
    (s.turnouts[t].locks = 0 → s.turnouts[t].queued = none → s.turnouts[t].firing = none → s.turnouts[t].position ≠ some x →
      s.cdu.state = .ready → s.service.state = .normal → s.throwQueue = [] →
      exec (.turnoutSet tag [byte1 t, byte1 x.code]) s =
        .next ({ s.taken.setTurnout t { s.turnouts[t] with queued := none, firing := some x } with
          throwQueue := []
          cdu := { s.cdu with state := .firing t, leftUs := s.turnouts[t].pulseMs * 1000 } }.reply 0x44#8 tag false))) ∧
  (∀ (t : Fin 8) (s : State), s.cdu.state = .firing t →
    ∃ u : State, exec .turnoutPulseEnd s = .next u ∧ u.turnouts[t].position = s.turnouts[t].firing ∧ u.turnouts[t].firing = none ∧
      u.cdu = ⟨.recharging, s.cdu.rechargeMs * 1000, s.cdu.rechargeMs⟩ ∧
      (s.Listening → u.Tells (.turnout t s.turnouts[t].firing))) ∧
  (∀ s : State, s.cdu.state = .recharging → s.throwQueue = [] ∨ s.service.state ≠ .normal →
    exec .cduRechargeEnd s = .next { s with cdu := { s.cdu with state := .ready, leftUs := 0 } }) ∧
  ∀ (t : Fin 8) (rest : List (Fin 8)) (x : Points) (s : State), s.cdu.state = .recharging → s.service.state = .normal →
    s.throwQueue = t :: rest → s.turnouts[t].queued = some x → s.turnouts[t].position ≠ some x →
    exec .cduRechargeEnd s =
      .next { s.setTurnout t { s.turnouts[t] with queued := none, firing := some x } with
        throwQueue := rest
        cdu := { s.cdu with state := .firing t, leftUs := s.turnouts[t].pulseMs * 1000 } }

/-! ## Trains (chapter 7) -/

/-- TRAIN_PLACE puts a FREE train STOPPED on a FREE configured block that no crossing protects (R128, R155); TRAIN_REMOVE frees it
and its blocks, each granted to the first train that waits for it where it can be, as the next block that TRAIN_STOP gives up is
(R129, R138); TRAIN_SPEED replaces the route speed (R132); TRAIN_STOP empties the route, gives up the next block and stops the train
at once or at step 0, is refused with NO_SUCH_OBJECT for a FREE train, with BAD_ARGUMENT for a mode above 1 in every state but FREE,
and for the two modes with STATE_CONFLICT in LOST and FAULT (R133). That an approach timer that stops keeps no remaining time is the
model's (log 33). -/
def Obligations.TrainsArePlacedStoppedAndRemoved : Prop :=
  (∀ (tag accel decel k1 k0 : Byte) (pol : Polarity) (x : Fin 8) (b : Fin 16) (s : State), s.trains[x].state = .free →
    s.blocks[b].configured = true → s.blocks[b].reservation = .free → (∀ c : Fin 2, s.crossings[c].block ≠ some b) →
    s.canTake ⟨0x48#8, tag, [byte1 x, byte1 b, byte1 pol.code, accel, decel, k1, k0]⟩ = true →
    exec (.trainPlace tag [byte1 x, byte1 b, byte1 pol.code, accel, decel, k1, k0]) s =
      .next (((s.taken.setBlock b
          { s.blocks[b] with reservation := .reserved, holder := some x, grant := none, polarity := pol }).setTrain x
          { Train.reset with
            state := .stopped, head := some b, accel := max 1 accel.toNat, decel := max 1 decel.toNat
            kick := min 500 (be2 k1 k0) }).reply 0x48#8 tag
        (decide (accel.toNat = 0 ∨ decel.toNat = 0 ∨ 500 < be2 k1 k0)))) ∧
  (∀ (tag : Byte) (x : Fin 8) (s : State), s.TrackSound → s.canTake ⟨0x49#8, tag, [byte1 x]⟩ = true →
    ∃ u : State, exec (.trainRemove tag [byte1 x]) s = .next (u.reply 0x49#8 tag false) ∧ (s.trains[x].state = .free → u = s.taken) ∧
      (s.trains[x].state ≠ .free →
        u.trains[x] = Train.reset ∧ ∀ b : Fin 16, u.blocks[b].holder ≠ some x ∧ x ∉ u.blocks[b].waiting)) ∧
  (∀ (tag : Byte) (x y : Fin 8) (b : Fin 16) (rest : List (Fin 8)) (p : Path) (s : State), s.TrackSound → s.StoresSound →
    s.LocksSound → s.PointsSound → s.blocks[b].holder = some x → s.blocks[b].configured = true → s.blocks[b].occupied = false →
    s.blocks[b].waiting.filter (fun z => z != x) = y :: rest → p ∈ s.paths → s.trains[y].head = some p.src → p.dst = b →
    s.CanSet p → p.needs = [] ∨ (∀ k : Fin 16, k ≠ b → ∀ z ∈ s.blocks[k].waiting, z = x) →
    s.canTake ⟨0x49#8, tag, [byte1 x]⟩ = true →
    ∃ u : State, exec (.trainRemove tag [byte1 x]) s = .next (u.reply 0x49#8 tag false) ∧ u.Granted y b p rest) ∧
  (∀ (tag : Byte) (emergency : Bool) (x y : Fin 8) (b : Fin 16) (rest : List (Fin 8)) (p : Path) (s : State), s.TrackSound →
    s.StoresSound → s.LocksSound → s.PointsSound → s.trains[x].state.driving = true → s.trains[x].next = some b →
    s.blocks[b].configured = true → s.blocks[b].occupied = false → s.blocks[b].waiting = y :: rest → p ∈ s.paths →
    s.trains[y].head = some p.src → p.dst = b → s.CanSet p → p.needs = [] ∨ (∀ k : Fin 16, k ≠ b → s.blocks[k].waiting = []) →
    s.canTake ⟨0x4C#8, tag, byte1 x :: outFlag emergency⟩ = true →
    ∃ u : State, exec (.trainStop tag (byte1 x :: outFlag emergency)) s = .next (u.reply 0x4C#8 tag false) ∧
      u.Granted y b p rest) ∧
  (∀ (tag speed : Byte) (x : Fin 8) (s : State), s.trains[x].state ≠ .free → s.canTake ⟨0x4B#8, tag, [byte1 x, speed]⟩ = true →
    exec (.trainSpeed tag [byte1 x, speed]) s =
      .next ((s.taken.setTrain x { s.trains[x] with speed := min 127 speed.toNat }).reply 0x4B#8 tag
        (decide (127 < speed.toNat)))) ∧
  (∀ (tag speed : Byte) (x : Fin 8) (s : State), s.trains[x].state = .free → s.canTake ⟨0x4B#8, tag, [byte1 x, speed]⟩ = true →
    exec (.trainSpeed tag [byte1 x, speed]) s = .next (s.taken.answer 0x4B#8 tag .noSuchObject [])) ∧
  (∀ (tag : Byte) (emergency : Bool) (x : Fin 8) (s : State), s.TrackSound → s.trains[x].state.driving = true →
    s.canTake ⟨0x4C#8, tag, byte1 x :: outFlag emergency⟩ = true →
    ∃ u : State, exec (.trainStop tag (byte1 x :: outFlag emergency)) s = .next (u.reply 0x4C#8 tag false) ∧
      u.trains[x].route = [] ∧ u.trains[x].next = none ∧ u.trains[x].waitingFor = none ∧ u.trains[x].phase = .inactive ∧
      u.trains[x].approachMs = 0 ∧ u.trains[x].head = s.trains[x].head ∧
      (emergency = true ∨ s.trains[x].step = 0 →
        u.trains[x].state = .stopped ∧ u.trains[x].step = 0 ∧ u.trains[x].stopPending = false ∧
          (s.Listening → u.Tells (.train x (.stopped s.trains[x].head)))) ∧
      (emergency = false → s.trains[x].step ≠ 0 →
        u.trains[x].state = s.trains[x].state ∧ u.trains[x].step = s.trains[x].step ∧ u.trains[x].stopPending = true)) ∧
  (∀ (tag mode : Byte) (x : Fin 8) (s : State), s.trains[x].state = .free →
    s.canTake ⟨0x4C#8, tag, [byte1 x, mode]⟩ = true →
    exec (.trainStop tag [byte1 x, mode]) s = .next (s.taken.answer 0x4C#8 tag .noSuchObject [])) ∧
  (∀ (tag mode : Byte) (x : Fin 8) (s : State), s.trains[x].state = .lost ∨ s.trains[x].state = .fault →
    mode.toNat ≤ 1 → s.canTake ⟨0x4C#8, tag, [byte1 x, mode]⟩ = true →
    exec (.trainStop tag [byte1 x, mode]) s = .next (s.taken.answer 0x4C#8 tag .stateConflict [])) ∧
  (∀ (tag mode : Byte) (x : Fin 8) (s : State), s.trains[x].state ≠ .free → 1 < mode.toNat →
    s.canTake ⟨0x4C#8, tag, [byte1 x, mode]⟩ = true →
    exec (.trainStop tag [byte1 x, mode]) s = .next (s.taken.answer 0x4C#8 tag .badArgument [])) ∧
  ∀ (tag : Byte) (emergency : Bool) (x : Fin 8) (s : State), s.trains[x].state = .stopped →
    s.canTake ⟨0x4C#8, tag, byte1 x :: outFlag emergency⟩ = true →
    exec (.trainStop tag (byte1 x :: outFlag emergency)) s = .next (s.taken.reply 0x4C#8 tag false)

/-- TRAIN_ROUTE to a STOPPED train (R130, R131, R134 to R136): with a path for every pair, the first block is granted where it can
be (held, its polarity set, its turnouts locked; RESERVED with the train RUNNING where after the grant every required turnout is in
place and the block's crossing CLOSED, else SETTING with the train WAITING; an OPEN crossing is then WARNING with its timer, or at
the end of it at once with no warning time, an OPENING one CLOSING, one in FAULT as it was: R151), and is waited for otherwise, with
the WAITING notice. An empty route to a RUNNING train without a next block brings it into APPROACH (R142); that the approach timer,
not used in phase MARKER, then holds 0 is the model's, and so is that a travel timer that stops keeps no remaining time (log 33). A
pair without a path is refused with NO_PATH, a train in LOST or FAULT with STATE_CONFLICT. -/
def Obligations.RoutesAreGrantedOrWaitedFor : Prop :=
  (∀ (tag speed : Byte) (x : Fin 8) (h b : Fin 16) (rest : List (Fin 16)) (p : Path) (s : State), s.TrackSound → s.StoresSound →
    s.LocksSound → s.trains[x].state = .stopped → s.trains[x].head = some h → s.trains[x].next = none → rest.length ≤ 11 →
    (∀ q ∈ (h :: b :: rest).zip (b :: rest), ∃ p ∈ s.paths, p.src = q.1 ∧ p.dst = q.2) →
    p ∈ s.paths → p.src = h → p.dst = b → s.blocks[b].configured = true → s.blocks[b].reservation = .free →
    s.blocks[b].occupied = false → s.blocks[b].waiting = [] →
    (∀ n ∈ p.needs,
      (s.turnouts[n.turnout].locks = 0 ∧
          (s.turnouts[n.turnout].firing = none ∨ s.turnouts[n.turnout].firing = some n.position)) ∨
        (s.turnouts[n.turnout].lockedAt = some n.position ∧ 0 < s.turnouts[n.turnout].locks ∧ s.turnouts[n.turnout].locks < 8)) →
    s.canTake ⟨0x4A#8, tag, byte1 (16 * x.val + (rest.length + 1)) :: speed :: (b :: rest).map fun k => byte1 k.val⟩ = true →
    ∃ u : State, exec (.trainRoute tag (byte1 (16 * x.val + (rest.length + 1)) :: speed :: (b :: rest).map fun k => byte1 k.val)) s =
        .next (u.reply 0x4A#8 tag (decide (127 < speed.toNat))) ∧
      u.trains[x].route = b :: rest ∧ u.trains[x].speed = min 127 speed.toNat ∧ u.trains[x].next = some b ∧
      u.trains[x].waitingFor = none ∧ u.blocks[b].holder = some x ∧ u.blocks[b].grant = some p ∧
      u.blocks[b].polarity = p.polarity ∧
      (∀ n ∈ p.needs, u.turnouts[n.turnout].locks = s.turnouts[n.turnout].locks + 1 ∧
        u.turnouts[n.turnout].lockedAt = some n.position) ∧
      ((u.blocks[b].reservation = .reserved ∧ u.trains[x].state = .running) ∨
        (u.blocks[b].reservation = .setting ∧ u.trains[x].state = .waiting)) ∧
      ((∀ c : Fin 2, s.crossings[c].block ≠ some b) →
        (∀ n ∈ p.needs, s.turnouts[n.turnout].position = some n.position ∧ s.turnouts[n.turnout].queued = none ∧
          s.turnouts[n.turnout].firing = none) → u.blocks[b].reservation = .reserved) ∧
      (s.CrossingsSound →
        if (∀ n ∈ p.needs, u.turnouts[n.turnout].position = some n.position ∧ u.turnouts[n.turnout].queued = none ∧
              u.turnouts[n.turnout].firing = none) ∧
            ∀ c : Fin 2, s.crossings[c].block = some b → u.crossings[c].state = some .closed then
          u.blocks[b].reservation = .reserved ∧ u.trains[x].state = .running
        else u.blocks[b].reservation = .setting ∧ u.trains[x].state = .waiting)) ∧
  (∀ (tag speed : Byte) (x : Fin 8) (h b : Fin 16) (rest : List (Fin 16)) (p : Path) (c : Fin 2) (s : State), s.TrackSound →
    s.StoresSound → s.CrossingsSound → s.BarriersSound → s.trains[x].state = .stopped → s.trains[x].head = some h →
    s.trains[x].next = none → rest.length ≤ 11 →
    (∀ q ∈ (h :: b :: rest).zip (b :: rest), ∃ p ∈ s.paths, p.src = q.1 ∧ p.dst = q.2) → p ∈ s.paths → p.src = h → p.dst = b →
    s.CanGrant b p → s.blocks[b].waiting = [] → s.crossings[c].block = some b →
    s.canTake ⟨0x4A#8, tag, byte1 (16 * x.val + (rest.length + 1)) :: speed :: (b :: rest).map fun k => byte1 k.val⟩ = true →
    ∃ u : State, exec (.trainRoute tag (byte1 (16 * x.val + (rest.length + 1)) :: speed :: (b :: rest).map fun k => byte1 k.val)) s =
        .next (u.reply 0x4A#8 tag (decide (127 < speed.toNat))) ∧
      (s.crossings[c].state = some .opened → s.crossings[c].warningMs ≠ 0 →
        u.crossings[c] =
            { s.crossings[c] with state := some .warning, timerRunning := true, timerUs := s.crossings[c].warningMs * 1000 } ∧
          u.drives = s.drives ∧ u.blocks[b].reservation = .setting) ∧
      ((s.crossings[c].state = some .opened ∧ s.crossings[c].warningMs = 0) ∨ s.crossings[c].state = some .opening →
        (s.crossings[c].barrier = none → u.crossings[c] = s.crossings[c].entered .closed) ∧
          (∀ d : Fin 4, s.crossings[c].barrier = some d → ∀ v, s.drives[d].kind = .traverse v → s.Lowered u c d v) ∧
          (s.Listening → u.crossings[c].state = some .closed → u.Tells (.crossing c (.closed (some b) (some x))))) ∧
      (s.crossings[c].state = some .fault →
        u.crossings[c] = s.crossings[c] ∧ u.drives = s.drives ∧ u.blocks[b].reservation = .setting)) ∧
  (∀ (tag speed : Byte) (x : Fin 8) (h b : Fin 16) (rest : List (Fin 16)) (s : State), s.TrackSound → s.StoresSound →
    s.trains[x].state = .stopped → s.trains[x].head = some h → s.trains[x].next = none → rest.length ≤ 11 →
    (∀ q ∈ (h :: b :: rest).zip (b :: rest), ∃ p ∈ s.paths, p.src = q.1 ∧ p.dst = q.2) →
    (s.blocks[b].configured = false ∨ s.blocks[b].reservation ≠ .free ∨ s.blocks[b].occupied = true ∨ s.blocks[b].waiting ≠ [] ∨
      ∃ p ∈ s.paths, p.src = h ∧ p.dst = b ∧ ∃ n ∈ p.needs,
        (s.turnouts[n.turnout].locks = 0 ∧ s.turnouts[n.turnout].firing ≠ none ∧
            s.turnouts[n.turnout].firing ≠ some n.position) ∨
          (s.turnouts[n.turnout].locks ≠ 0 ∧ (s.turnouts[n.turnout].lockedAt ≠ some n.position ∨ 8 ≤ s.turnouts[n.turnout].locks))) →
    s.canTake ⟨0x4A#8, tag, byte1 (16 * x.val + (rest.length + 1)) :: speed :: (b :: rest).map fun k => byte1 k.val⟩ = true →
    exec (.trainRoute tag (byte1 (16 * x.val + (rest.length + 1)) :: speed :: (b :: rest).map fun k => byte1 k.val)) s =
      .next ((((s.taken.setBlock b { s.blocks[b] with waiting := s.blocks[b].waiting ++ [x] }).setTrain x
          { s.trains[x] with
            state := .waiting, stopPending := false, route := b :: rest, speed := min 127 speed.toNat
            waitingFor := some b }).send (.train x (.waiting b s.blocks[b].waiting.length))).reply
        0x4A#8 tag (decide (127 < speed.toNat)))) ∧
  (∀ (tag speed : Byte) (x : Fin 8) (h : Fin 16) (route : List (Fin 16)) (s : State), s.trains[x].state = .stopped →
    s.trains[x].head = some h → s.trains[x].next = none → route.length ≤ 12 →
    (∃ q ∈ (h :: route).zip route, ∀ p ∈ s.paths, p.src ≠ q.1 ∨ p.dst ≠ q.2) →
    s.canTake ⟨0x4A#8, tag, byte1 (16 * x.val + route.length) :: speed :: route.map fun k => byte1 k.val⟩ = true →
    exec (.trainRoute tag (byte1 (16 * x.val + route.length) :: speed :: route.map fun k => byte1 k.val)) s =
      .next (s.taken.answer 0x4A#8 tag .noPath [])) ∧
  (∀ (tag speed : Byte) (x : Fin 8) (h : Fin 16) (s : State), s.trains[x].state = .running → s.trains[x].head = some h →
    s.trains[x].next = none → s.trains[x].waitingFor = none → s.canTake ⟨0x4A#8, tag, [byte1 (16 * x.val), speed]⟩ = true →
    exec (.trainRoute tag [byte1 (16 * x.val), speed]) s =
      .next ((s.taken.setTrain x
          { s.trains[x] with
            state := .approach, stopPending := false, route := [], speed := min 127 speed.toNat
            phase :=
              if ∃ i : Fin 16, s.inputs[i].use = .stopMarker h then .marker
              else if s.blocks[h].approachMs = 0 then .braking else .timing
            approachMs := if ∃ i : Fin 16, s.inputs[i].use = .stopMarker h then 0 else s.blocks[h].approachMs }).reply
        0x4A#8 tag (decide (127 < speed.toNat)))) ∧
  ∀ (tag speed : Byte) (x : Fin 8) (route : List (Fin 16)) (s : State), s.trains[x].state = .lost ∨ s.trains[x].state = .fault →
    route.length ≤ 12 →
    s.canTake ⟨0x4A#8, tag, byte1 (16 * x.val + route.length) :: speed :: route.map fun k => byte1 k.val⟩ = true →
    exec (.trainRoute tag (byte1 (16 * x.val + route.length) :: speed :: route.map fun k => byte1 k.val)) s =
      .next (s.taken.answer 0x4A#8 tag .stateConflict [])

/-- The ramp interval in NORMAL moves a train's step toward its target by one for each 50 units of its accumulator, and counts its
progress while the step is above 0 (R125 to R127); a stop pending and a braking end at step 0; the progress timer makes the train
LOST and the approach timer makes it brake at the intervals at which they run out, and PROGRESS_TIMEOUT of a train that stands
changes nothing (log 4). That the grant pass for the trains that become LOST follows the work of every train, so that none is
granted a block before its own work, is the model's choice (R138; log 35). A block's duty follows from its holder's kick and step,
and is 0 without one, while it is not RESERVED, and in service (R109). In service the trains stand (R145). -/
def Obligations.RampIntervalsMoveTheSteps : Prop :=
  (∀ (x : Fin 8) (v : Nat) (s : State), s.service.state = .normal → s.trains[x].progressMs + 20 < s.transitMs x →
    (s.trains[x].stopPending = false ∧ s.trains[x].state = .running ∧ v = s.trains[x].speed) ∨
      (s.trains[x].stopPending = false ∧ s.trains[x].state = .approach ∧
        (s.trains[x].phase = .marker ∨ s.trains[x].phase = .timing) ∧
        ∃ h, s.trains[x].head = some h ∧ v = min s.trains[x].speed s.blocks[h].approachSpeed) ∨
      ((s.trains[x].stopPending = true ∨ s.trains[x].phase = .braking) ∧ s.trains[x].state = .approach ∧ v = 0) ∨
      (s.trains[x].stopPending = true ∧ s.trains[x].state = .running ∧ v = 0) →
    ∃ (t : State) (acc : Nat), exec .rampInterval s = .next t ∧
      acc = s.trains[x].ramp + (if s.trains[x].step < v then s.trains[x].accel else s.trains[x].decel) ∧
      t.trains[x].step = (rampMoves v acc (s.trains[x].step, acc)).1 ∧
      t.trains[x].ramp =
        (if t.trains[x].step = v then 0 else (rampMoves v acc (s.trains[x].step, acc)).2) ∧
      t.trains[x].progressMs = (if t.trains[x].step = 0 then s.trains[x].progressMs else s.trains[x].progressMs + 20)) ∧
  (∀ (x : Fin 8) (s : State), s.service.state = .normal → s.trains[x].step = 0 → s.trains[x].stopPending = true →
    s.trains[x].state = .running ∨ s.trains[x].state = .approach →
    ∃ t : State, exec .rampInterval s = .next t ∧ t.trains[x].state = .stopped ∧ t.trains[x].stopPending = false ∧
      (s.Listening → t.Tells (.train x (.stopped s.trains[x].head)))) ∧
  (∀ (x : Fin 8) (s : State), s.service.state = .normal → s.trains[x].step = 0 → s.trains[x].stopPending = false →
    s.trains[x].state = .approach → s.trains[x].phase = .braking → s.trains[x].route = [] →
    ∃ t : State, exec .rampInterval s = .next t ∧ t.trains[x].state = .stopped ∧ t.trains[x].phase = .inactive ∧
      (s.Listening → t.Tells (.train x (.routeDone s.trains[x].head)))) ∧
  (∀ (x : Fin 8) (s : State), s.service.state = .normal → s.trains[x].state = .running → s.trains[x].stopPending = false →
    s.trains[x].step = s.trains[x].speed → 0 < s.trains[x].speed → 20 ≤ s.transitMs x →
    ∃ t : State, exec (.progressTimeout x) s = .next t ∧ t.trains[x].state = .lost ∧ t.trains[x].cause = .timeout ∧
      t.trains[x].step = 0 ∧ t.trains[x].head = s.trains[x].head ∧
      (s.Listening → t.Tells (.train x (.lost .timeout s.trains[x].head)))) ∧
  (∀ (x : Fin 8) (s : State), s.service.state = .normal → s.trains[x].state = .approach → s.trains[x].phase = .timing →
    s.trains[x].stopPending = false → (∀ y : Fin 8, s.trains[y].progressMs + 20 < s.transitMs y ∨ s.trains[y].state = .free) →
    ∃ t : State, exec (.approachTimerExpiry x) s = .next t ∧ t.trains[x].state = .approach ∧ t.trains[x].phase = .braking ∧
      t.trains[x].approachMs = 0) ∧
  (∀ (x : Fin 8) (s : State), s.trains[x].step = 0 →
    s.trains[x].state = .stopped ∨ s.trains[x].state = .waiting ∨ (s.trains[x].state = .running ∧ s.trains[x].speed = 0) →
    exec (.progressTimeout x) s = .next s) ∧
  (∀ (b : Fin 16) (x : Fin 8) (s : State), s.service.state = .normal → s.blocks[b].reservation = .reserved →
    s.blocks[b].holder = some x → s.trains[x].state = .running ∨ s.trains[x].state = .approach ∨ s.trains[x].state = .waiting →
    s.trains[x].step ≠ 0 →
    s.blockDuty b = s.trains[x].kick + (1000 - s.trains[x].kick) * s.trains[x].step / 127 ∧
      (1 ≤ s.trains[x].kick ∨ 1 ≤ s.blockDuty b) ∧
      (s.trains[x].kick ≤ 500 → s.trains[x].step ≤ 127 → s.blockDuty b ≤ 1000)) ∧
  (∀ (b : Fin 16) (s : State), s.service.state ≠ .normal ∨ s.blocks[b].holder = none ∨ s.blocks[b].reservation ≠ .reserved ∨
      (∃ x : Fin 8, s.blocks[b].holder = some x ∧ (s.trains[x].step = 0 ∨ s.trains[x].state.driving = false)) →
    s.blockDuty b = 0) ∧
  ∀ (x : Fin 8) (s : State), s.service.state ≠ .normal →
    exec .rampInterval s = .next s ∧ exec (.progressTimeout x) s = .next s ∧ exec (.approachTimerExpiry x) s = .next s

/-! ## Level crossings (chapter 8) -/

/-- CROSSING_CONFIG opens a crossing on a FREE block, binds a barrier and commands it up, and refuses a held block (R150);
CROSSING_RESET opens the road over a FREE block and closes it over a held one, which becomes SETTING, a train that runs toward it
entering APPROACH, and RESERVED again with nothing left to set (R142, R155, R156); the warning's expiry lowers the barrier, or
closes a crossing without one, whose SETTING block then becomes RESERVED where its turnouts are in place (R136, R152, R153). A
release by TRAIN_REMOVE or by TRAIN_STOP makes a crossing OPENING, or OPEN without a barrier; FAULT stays (R154). That the expiry
changes nothing where the timer does not run is the model's choice (log 3), and so is that an approach timer that stops or is not
used and a travel timer that stops hold no remaining time (log 33). -/
def Obligations.CrossingsCloseBeforeTrains : Prop :=
  (∀ (tag w1 w0 : Byte) (c : Fin 2) (b : Fin 16) (s : State), s.crossings[c].barrier = none → s.crossings[c].block = none →
    s.blocks[b].reservation = .free → (∀ q : Fin 2, q ≠ c → s.crossings[q].block ≠ some b) →
    s.canTake ⟨0x50#8, tag, [byte1 c, byte1 b, 0xFF, w1, w0]⟩ = true →
    exec (.crossingConfig tag [byte1 c, byte1 b, 0xFF, w1, w0]) s =
      .next ((s.taken.setCrossing c ⟨some b, none, min 10000 (be2 w1 w0), some .opened, false, 0⟩).reply 0x50#8 tag
        (decide (10000 < be2 w1 w0)))) ∧
  (∀ (tag w1 w0 : Byte) (c : Fin 2) (b : Fin 16) (d : Fin 4) (v : Traverse) (s : State), s.crossings[c].barrier = none →
    s.crossings[c].block = none → s.blocks[b].reservation = .free →
    (∀ q : Fin 2, q ≠ c → s.crossings[q].block ≠ some b ∧ s.crossings[q].barrier ≠ some d) → s.drives[d].kind = .traverse v →
    v.state ≠ .movingOpen → (∀ i : Fin 16, s.inputs[i].use = .endOpen d → s.inputs[i].active = false) →
    s.canTake ⟨0x50#8, tag, [byte1 c, byte1 b, byte1 d, w1, w0]⟩ = true →
    exec (.crossingConfig tag [byte1 c, byte1 b, byte1 d, w1, w0]) s =
      .next (((s.taken.setCrossing c ⟨some b, some d, min 10000 (be2 w1 w0), some .opening, false, 0⟩).setDrive d
        { s.drives[d] with
          bound := some c, direction := .high, duty := if s.service.state = .normal then v.travelDuty else 0
          kind := .traverse { v with state := .movingOpen, travelRunning := true, travelMs := v.timeoutMs } }).reply 0x50#8 tag
        (decide (10000 < be2 w1 w0)))) ∧
  (∀ (tag w1 w0 : Byte) (c : Fin 2) (b : Fin 16) (s : State), s.blocks[b].reservation ≠ .free →
    s.canTake ⟨0x50#8, tag, [byte1 c, byte1 b, 0xFF, w1, w0]⟩ = true →
    exec (.crossingConfig tag [byte1 c, byte1 b, 0xFF, w1, w0]) s = .next (s.taken.answer 0x50#8 tag .stateConflict [])) ∧
  (∀ (tag : Byte) (c : Fin 2) (b : Fin 16) (s : State), s.crossings[c].block = some b → s.crossings[c].barrier = none →
    s.blocks[b].reservation = .free → s.canTake ⟨0x51#8, tag, [byte1 c]⟩ = true →
    exec (.crossingReset tag [byte1 c]) s =
      .next ((if s.crossings[c].state = some .opened then
          s.taken.setCrossing c { s.crossings[c] with timerRunning := false, timerUs := 0 }
        else
          (s.taken.setCrossing c { s.crossings[c] with timerRunning := false, timerUs := 0, state := some .opened }).send
            (.crossing c (.opened (some b)))).reply 0x51#8 tag false)) ∧
  (∀ (tag : Byte) (c : Fin 2) (b : Fin 16) (x : Fin 8) (s : State), s.crossings[c].block = some b →
    s.crossings[c].barrier = none → s.CrossingsSound → s.TrackSound → s.blocks[b].reservation = .setting →
    s.blocks[b].holder = some x → s.trains[x].next = some b → s.trains[x].state = .approach ∨ s.trains[x].state = .waiting →
    (∀ p ∈ s.blocks[b].grant, ∀ n ∈ p.needs, s.turnouts[n.turnout].position = some n.position ∧
      s.turnouts[n.turnout].queued = none ∧ s.turnouts[n.turnout].firing = none) →
    s.canTake ⟨0x51#8, tag, [byte1 c]⟩ = true →
    ∃ u : State, exec (.crossingReset tag [byte1 c]) s = .next (u.reply 0x51#8 tag false) ∧ u.crossings[c].state = some .closed ∧
      u.crossings[c].timerRunning = false ∧ u.blocks[b].reservation = .reserved ∧ u.trains[x].state = .running ∧
      u.trains[x].phase = .inactive ∧ (s.Listening → u.Tells (.crossing c (.closed (some b) (some x))))) ∧
  (∀ (c : Fin 2) (b : Fin 16) (d : Fin 4) (v : Traverse) (s : State), s.crossings[c].state = some .warning →
    s.crossings[c].timerRunning = true → s.crossings[c].block = some b → s.crossings[c].barrier = some d →
    s.drives[d].kind = .traverse v → v.state ≠ .movingClosed → s.service.state = .normal →
    (∀ i : Fin 16, s.inputs[i].use = .endClosed d → s.inputs[i].active = false) →
    exec (.warningTimerExpiry c) s =
      .next ((s.setCrossing c { s.crossings[c] with state := some .closing, timerRunning := false, timerUs := 0 }).setDrive d
        { s.drives[d] with
          direction := .low, duty := v.travelDuty
          kind := .traverse { v with state := .movingClosed, travelRunning := true, travelMs := v.timeoutMs } })) ∧
  (∀ (c : Fin 2) (b : Fin 16) (x : Fin 8) (s : State), s.crossings[c].state = some .warning →
    s.crossings[c].timerRunning = true → s.crossings[c].block = some b → s.crossings[c].barrier = none →
    s.service.state = .normal → s.CrossingsSound → s.blocks[b].reservation = .setting → s.blocks[b].holder = some x →
    ∃ u : State,
      u =
        (s.setCrossing c { s.crossings[c] with state := some .closed, timerRunning := false, timerUs := 0 }).send
          (.crossing c (.closed (some b) (some x))) ∧
      ((∀ p ∈ s.blocks[b].grant, ∀ n ∈ p.needs, s.turnouts[n.turnout].position = some n.position ∧
          s.turnouts[n.turnout].queued = none ∧ s.turnouts[n.turnout].firing = none) →
        exec (.warningTimerExpiry c) s =
          .next
            (if s.trains[x].next = some b ∧ (s.trains[x].state = .approach ∨ s.trains[x].state = .waiting) then
              (u.setBlock b { s.blocks[b] with reservation := .reserved }).setTrain x
                { s.trains[x] with state := .running, phase := .inactive, approachMs := 0 }
             else u.setBlock b { s.blocks[b] with reservation := .reserved })) ∧
      ((∃ p ∈ s.blocks[b].grant, ∃ n ∈ p.needs, s.turnouts[n.turnout].position ≠ some n.position ∨
          s.turnouts[n.turnout].queued ≠ none ∨ s.turnouts[n.turnout].firing ≠ none) →
        exec (.warningTimerExpiry c) s = .next u)) ∧
  (∀ (c : Fin 2) (b : Fin 16) (s : State), s.crossings[c].state = some .warning → s.crossings[c].timerRunning = true →
    s.crossings[c].block = some b → s.crossings[c].barrier = none → s.service.state = .normal →
    s.blocks[b].reservation ≠ .setting →
    exec (.warningTimerExpiry c) s =
      .next ((s.setCrossing c { s.crossings[c] with state := some .closed, timerRunning := false, timerUs := 0 }).send
        (.crossing c (.closed (some b) s.blocks[b].holder)))) ∧
  (∀ (tag : Byte) (c : Fin 2) (b h : Fin 16) (d : Fin 4) (v : Traverse) (x : Fin 8) (s : State),
    s.crossings[c].block = some b → s.crossings[c].barrier = some d → s.drives[d].kind = .traverse v →
    v.state ≠ .movingClosed → (∀ i : Fin 16, s.inputs[i].use = .endClosed d → s.inputs[i].active = false) →
    s.blocks[b].reservation = .reserved → s.blocks[b].holder = some x → s.trains[x].next = some b →
    s.trains[x].state = .running → s.trains[x].head = some h → s.canTake ⟨0x51#8, tag, [byte1 c]⟩ = true →
    exec (.crossingReset tag [byte1 c]) s =
      .next (((((s.taken.setBlock b { s.blocks[b] with reservation := .setting }).setTrain x
        { s.trains[x] with
          state := .approach
          phase :=
            if ∃ i : Fin 16, s.inputs[i].use = .stopMarker h then .marker
            else if s.blocks[h].approachMs = 0 then .braking else .timing
          approachMs := if ∃ i : Fin 16, s.inputs[i].use = .stopMarker h then 0 else s.blocks[h].approachMs }).setCrossing c
        { s.crossings[c] with state := some .closing, timerRunning := false, timerUs := 0 }).setDrive d
        { s.drives[d] with
          direction := .low, duty := if s.service.state = .normal then v.travelDuty else 0
          kind := .traverse { v with state := .movingClosed, travelRunning := true, travelMs := v.timeoutMs } }).reply
        0x51#8 tag false)) ∧
  (∀ (tag : Byte) (x : Fin 8) (b : Fin 16) (c : Fin 2) (s : State), s.TrackSound → s.CrossingsSound → s.BarriersSound →
    s.blocks[b].holder = some x → s.crossings[c].block = some b →
    s.blocks[b].occupied = true ∨ (∀ y ∈ s.blocks[b].waiting, y = x) → s.canTake ⟨0x49#8, tag, [byte1 x]⟩ = true →
    ∃ u : State, exec (.trainRemove tag [byte1 x]) s = .next (u.reply 0x49#8 tag false) ∧ u.blocks[b].reservation = .free ∧
      s.Reopened u c) ∧
  (∀ (tag : Byte) (emergency : Bool) (x : Fin 8) (b : Fin 16) (c : Fin 2) (s : State), s.TrackSound → s.CrossingsSound →
    s.BarriersSound → s.trains[x].state.driving = true → s.trains[x].next = some b → s.crossings[c].block = some b →
    s.blocks[b].occupied = true ∨ s.blocks[b].waiting = [] → s.canTake ⟨0x4C#8, tag, byte1 x :: outFlag emergency⟩ = true →
    ∃ u : State, exec (.trainStop tag (byte1 x :: outFlag emergency)) s = .next (u.reply 0x4C#8 tag false) ∧
      u.blocks[b].reservation = .free ∧ s.Reopened u c) ∧
  ∀ (c : Fin 2) (s : State), s.crossings[c].timerRunning = false ∨ s.service.state ≠ .normal →
    exec (.warningTimerExpiry c) s = .next s

/-! ## Inputs, the door and the service state (chapter 9) -/

/-- INPUT_CONFIG gives an input its trigger, debounce time and use, another input that held the use giving it up, and a debounce that runs
goes on under the new time or completes at once (R160, R163); INPUT_BIND
replaces the binding of a GENERAL input whole and is refused for any other use (R164); a pin's change starts or stops the debounce
(R160). -/
def Obligations.InputsAreConfiguredAndBound : Prop :=
  (∀ (tag : Byte) (trigger : Trigger) (ms object_ : Byte) (i : Fin 16) (s : State), s.inputs[i].debounceRunning = false →
    s.canTake ⟨0x58#8, tag, [byte1 i, byte1 trigger.code, ms, 0, object_]⟩ = true →
    exec (.inputConfig tag [byte1 i, byte1 trigger.code, ms, 0, object_]) s =
      .next ((s.taken.setInput i
        { s.inputs[i] with
          trigger := trigger, debounceMs := ms.toNat, use := .general, rearmRunning := false, rearmUs := 0 }).reply
        0x58#8 tag false)) ∧
  (∀ (tag : Byte) (trigger : Trigger) (ms : Byte) (u : Use) (i j : Fin 16) (s : State), s.inputs[i].debounceRunning = false →
    u ≠ .general → trigger ≠ .never → trigger ≠ .change → j ≠ i → s.inputs[j].use = u →
    s.canTake ⟨0x58#8, tag, [byte1 i, byte1 trigger.code, ms, byte1 u.code] ++ u.object⟩ = true →
    ∃ t : State, exec (.inputConfig tag ([byte1 i, byte1 trigger.code, ms, byte1 u.code] ++ u.object)) s =
        .next (t.reply 0x58#8 tag false) ∧
      t.inputs[i] =
        { s.inputs[i] with
          trigger := trigger, debounceMs := ms.toNat, use := u, rearmRunning := false, rearmUs := 0, action := none
          rearmS := 0, notice := false } ∧
      t.inputs[j] = { s.inputs[j] with use := .general }) ∧
  (∀ (tag : Byte) (trigger : Trigger) (ms : Byte) (u : Use) (i : Fin 16) (s : State),
    u = .general ∨ (trigger ≠ .never ∧ trigger ≠ .change ∧ ∀ j : Fin 16, j ≠ i → s.inputs[j].use ≠ u) →
    s.canTake ⟨0x58#8, tag, [byte1 i, byte1 trigger.code, ms, byte1 u.code] ++ u.object⟩ = true →
    let configured : State :=
      s.taken.setInput i
        { s.inputs[i] with
          trigger := trigger, debounceMs := ms.toNat, use := u, rearmRunning := false, rearmUs := 0
          action := if u = .general then s.inputs[i].action else none
          rearmS := if u = .general then s.inputs[i].rearmS else 0
          notice := if u = .general then s.inputs[i].notice else false }
    (s.inputs[i].debounceRunning = false ∨ s.inputs[i].debounceUs < ms.toNat * 1000 →
      exec (.inputConfig tag ([byte1 i, byte1 trigger.code, ms, byte1 u.code] ++ u.object)) s =
        .next (configured.reply 0x58#8 tag false)) ∧
    (s.inputs[i].debounceRunning = true → ms.toNat * 1000 ≤ s.inputs[i].debounceUs →
      ∃ t, exec (.senseDebounceDone i) configured = .next t ∧
        exec (.inputConfig tag ([byte1 i, byte1 trigger.code, ms, byte1 u.code] ++ u.object)) s =
          .next (t.reply 0x58#8 tag false))) ∧
  (∀ (tag rearm kind : Byte) (bound notice : Bool) (action : List Byte) (i : Fin 16) (s : State), s.inputs[i].use = .general →
    (bound = true → storable kind action = true) → action.length ≤ 56 →
    s.canTake ⟨0x59#8, tag, [byte1 i] ++ outFlag bound ++ [rearm] ++ outFlag notice ++ [kind, byte1 action.length] ++ action⟩ =
      true →
    exec (.inputBind tag
        ([byte1 i] ++ outFlag bound ++ [rearm] ++ outFlag notice ++ [kind, byte1 action.length] ++ action)) s =
      .next ((s.taken.setInput i
        { s.inputs[i] with
          action := if bound then some ⟨kind, action⟩ else none, rearmS := rearm.toNat, notice := notice
          rearmRunning := false, rearmUs := 0 }).reply 0x59#8 tag false)) ∧
  (∀ (tag rearm kind : Byte) (bound notice : Bool) (action : List Byte) (i : Fin 16) (s : State), s.inputs[i].use ≠ .general →
    action.length ≤ 56 →
    s.canTake ⟨0x59#8, tag, [byte1 i] ++ outFlag bound ++ [rearm] ++ outFlag notice ++ [kind, byte1 action.length] ++ action⟩ =
      true →
    exec (.inputBind tag
        ([byte1 i] ++ outFlag bound ++ [rearm] ++ outFlag notice ++ [kind, byte1 action.length] ++ action)) s =
      .next (s.taken.answer 0x59#8 tag .stateConflict [])) ∧
  (∀ (i : Fin 16) (high : Bool) (s : State), s.inputs[i].pin ≠ high → s.inputs[i].level = high →
    exec (.sensePinChange i high) s =
      .next (s.setInput i { s.inputs[i] with pin := high, debounceRunning := false, debounceUs := 0 })) ∧
  (∀ (i : Fin 16) (high : Bool) (s : State), s.inputs[i].pin ≠ high → s.inputs[i].level ≠ high → s.inputs[i].debounceMs ≠ 0 →
    exec (.sensePinChange i high) s =
      .next (s.setInput i { s.inputs[i] with pin := high, debounceRunning := true, debounceUs := 0 })) ∧
  ∀ (i : Fin 16) (s : State), exec (.sensePinChange i s.inputs[i].pin) s = .next s

/-- A debounced edge that meets the trigger of an armed input fires it: its rearm timer starts and its use decides who takes the firing
(R161, R162); a GENERAL one queues its action in NORMAL, discards it with ACTION_FAILED where the queue is full (R33) and drops it in
service, its INPUT_EVENT telling which, a stop marker stands the train in APPROACH, an index
stops an armed drive, an end stops the drive that seeks it (R93, R96, R143), a barrier's end making its crossing OPEN from OPENING or CLOSED
from CLOSING, with its notice and the test of the SETTING block, and changing no crossing in another state (R136, R153). An edge that does not meet it changes the level alone;
the rearm timer's expiry arms the input and fires it again at a lasting HIGH or LOW. That SENSE_DEBOUNCE_DONE and REARM_EXPIRY change
nothing where their timer does not run is the model's choice (log 3), and so is that an approach or travel timer that stops keeps no
remaining time (log 33). -/
def Obligations.FiringsAreDeliveredByTheirUse : Prop :=
  (∀ (i : Fin 16) (s : State), s.inputs[i].debounceRunning = true →
    s.inputs[i].trigger.meets s.inputs[i].pin = false ∨ s.inputs[i].rearmRunning = true →
    exec (.senseDebounceDone i) s =
      .next (s.setInput i { s.inputs[i] with level := s.inputs[i].pin, debounceRunning := false, debounceUs := 0 })) ∧
  (∀ (i : Fin 16) (a : StoredAction) (s : State), s.inputs[i].debounceRunning = true →
    s.inputs[i].trigger.meets s.inputs[i].pin = true → s.inputs[i].rearmRunning = false → s.inputs[i].use = .general →
    s.inputs[i].action = some a → s.inputs[i].notice = false → s.dispatcher.actions.length < 16 →
    exec (.senseDebounceDone i) s =
      .next { s.setInput i
          { s.inputs[i] with
            level := s.inputs[i].pin, debounceRunning := false, debounceUs := 0
            rearmRunning := decide (s.inputs[i].rearmS ≠ 0)
            rearmUs := if s.inputs[i].rearmS = 0 then s.inputs[i].rearmUs else s.inputs[i].rearmS * 1000000 } with
        dispatcher :=
          { s.dispatcher with
            actions := if s.service.state = .normal then s.dispatcher.actions ++ [⟨.input i, a⟩] else s.dispatcher.actions } }) ∧
  (∀ (i : Fin 16) (a : StoredAction) (s : State), s.inputs[i].debounceRunning = true →
    s.inputs[i].trigger.meets s.inputs[i].pin = true → s.inputs[i].rearmRunning = false → s.inputs[i].use = .general →
    s.inputs[i].action = some a →
    ∃ u : State,
      u =
        s.setInput i
          { s.inputs[i] with
            level := s.inputs[i].pin, debounceRunning := false, debounceUs := 0
            rearmRunning := decide (s.inputs[i].rearmS ≠ 0)
            rearmUs := if s.inputs[i].rearmS = 0 then s.inputs[i].rearmUs else s.inputs[i].rearmS * 1000000 } ∧
      (s.service.state = .normal → s.dispatcher.actions.length < 16 → s.inputs[i].notice = true →
        exec (.senseDebounceDone i) s =
          .next ({ u with
            dispatcher := { s.dispatcher with actions := s.dispatcher.actions ++ [(⟨.input i, a⟩ : ActionEntry)] } }.send
            (.input i s.inputs[i].pin .queued))) ∧
      (s.service.state = .normal → 16 ≤ s.dispatcher.actions.length →
        exec (.senseDebounceDone i) s =
          .next
            (if s.inputs[i].notice then
              (u.send (.actionFailed (.input i) a.kind .tableFull)).send (.input i s.inputs[i].pin .discarded)
             else u.send (.actionFailed (.input i) a.kind .tableFull))) ∧
      (s.service.state ≠ .normal →
        exec (.senseDebounceDone i) s =
          .next (if s.inputs[i].notice then u.send (.input i s.inputs[i].pin .heldOut) else u))) ∧
  (∀ (i b : Fin 16) (x : Fin 8) (s : State), s.inputs[i].debounceRunning = true →
    s.inputs[i].trigger.meets s.inputs[i].pin = true → s.inputs[i].rearmRunning = false → s.inputs[i].use = .stopMarker b →
    s.TrackSound → s.trains[x].head = some b → s.trains[x].state = .approach →
    ∃ t : State, exec (.senseDebounceDone i) s = .next t ∧ t.inputs[i].level = s.inputs[i].pin ∧ t.trains[x].step = 0 ∧
      t.trains[x].ramp = 0 ∧ t.trains[x].phase = .inactive ∧ t.trains[x].approachMs = 0 ∧
      (s.trains[x].stopPending = true → t.trains[x].state = .stopped ∧ t.trains[x].stopPending = false ∧
        (s.Listening → t.Tells (.train x (.stopped (some b))))) ∧
      (s.trains[x].stopPending = false → s.trains[x].route = [] →
        t.trains[x].state = .stopped ∧ (s.Listening → t.Tells (.train x (.routeDone (some b))))) ∧
      (s.trains[x].stopPending = false → s.trains[x].route ≠ [] → t.trains[x].state = .waiting)) ∧
  (∀ (i : Fin 16) (d : Fin 4) (r : Rotary) (s : State), s.inputs[i].debounceRunning = true →
    s.inputs[i].trigger.meets s.inputs[i].pin = true → s.inputs[i].rearmRunning = false → s.inputs[i].use = .index d →
    s.drives[d].kind = .rotary r → r.state = .homing → r.setpoint = r.target → s.service.state = .normal →
    ∃ (t : State) (r' : Rotary), exec (.senseDebounceDone i) s = .next t ∧ t.drives[d].kind = .rotary r' ∧ t.drives[d].duty = 0 ∧
      r'.state = .stopped ∧ r'.setpoint = 0 ∧ r'.integral = 0 ∧ r'.homeRunning = false ∧ r'.history = [] ∧
      r'.primed = false ∧ (s.Listening → t.Tells (.drive d .homed))) ∧
  (∀ (i : Fin 16) (d : Fin 4) (v : Traverse) (x : End) (s : State), s.inputs[i].debounceRunning = true →
    s.inputs[i].trigger.meets s.inputs[i].pin = true → s.inputs[i].rearmRunning = false → s.inputs[i].use = endUse d x →
    s.drives[d].kind = .traverse v → v.state = x.movingState →
    ∃ t : State, exec (.senseDebounceDone i) s = .next t ∧ t.drives[d].duty = 0 ∧
      t.drives[d].kind = .traverse { v with state := x.atState, travelRunning := false, travelMs := 0 } ∧
      (s.Listening → t.Tells (.drive d (.atEnd x)))) ∧
  (∀ (i : Fin 16) (d : Fin 4) (v : Traverse) (x : End) (c : Fin 2) (s : State), s.inputs[i].debounceRunning = true →
    s.inputs[i].trigger.meets s.inputs[i].pin = true → s.inputs[i].rearmRunning = false → s.inputs[i].use = endUse d x →
    s.drives[d].kind = .traverse v → v.state = x.movingState → s.drives[d].bound = some c →
    ∃ t : State, exec (.senseDebounceDone i) s = .next t ∧
      (x = .opened → s.crossings[c].state = some .opening →
        t.crossings[c] = { s.crossings[c] with state := some .opened } ∧ t.blocks = s.blocks ∧ t.trains = s.trains ∧
          (s.Listening → t.Tells (.crossing c (.opened s.crossings[c].block)))) ∧
      (x = .closed → s.crossings[c].state = some .closing →
        t.crossings[c] = { s.crossings[c] with state := some .closed } ∧
          ∀ b : Fin 16, s.crossings[c].block = some b →
            (s.Listening → t.Tells (.crossing c (.closed (some b) s.blocks[b].holder))) ∧
            (s.CrossingsSound → s.blocks[b].reservation = .setting →
              (∀ p ∈ s.blocks[b].grant, ∀ n ∈ p.needs, s.turnouts[n.turnout].position = some n.position ∧
                s.turnouts[n.turnout].queued = none ∧ s.turnouts[n.turnout].firing = none) →
              t.blocks[b] = { s.blocks[b] with reservation := .reserved } ∧
                ∀ y : Fin 8, s.blocks[b].holder = some y →
                  t.trains[y] =
                    (if s.trains[y].next = some b ∧ (s.trains[y].state = .approach ∨ s.trains[y].state = .waiting) then
                      { s.trains[y] with state := .running, phase := .inactive, approachMs := 0 }
                     else s.trains[y])) ∧
            (s.blocks[b].reservation ≠ .setting ∨
              (∃ p ∈ s.blocks[b].grant, ∃ n ∈ p.needs, s.turnouts[n.turnout].position ≠ some n.position ∨
                s.turnouts[n.turnout].queued ≠ none ∨ s.turnouts[n.turnout].firing ≠ none) →
              t.blocks = s.blocks ∧ t.trains = s.trains)) ∧
      ((x = .opened ∧ s.crossings[c].state ≠ some .opening) ∨ (x = .closed ∧ s.crossings[c].state ≠ some .closing) →
        t.crossings = s.crossings ∧ t.blocks = s.blocks ∧ t.trains = s.trains)) ∧
  (∀ (i : Fin 16) (s : State), s.inputs[i].rearmRunning = true →
    (s.inputs[i].trigger ≠ .high ∨ s.inputs[i].level = false) → (s.inputs[i].trigger ≠ .low ∨ s.inputs[i].level = true) →
    exec (.rearmExpiry i) s = .next (s.setInput i { s.inputs[i] with rearmRunning := false, rearmUs := 0 })) ∧
  (∀ (i : Fin 16) (level : Bool) (s : State), s.inputs[i].rearmRunning = true →
    s.inputs[i].trigger = (if level then .high else .low) → s.inputs[i].level = level → s.inputs[i].use = .general →
    s.inputs[i].action = none → s.inputs[i].notice = true → s.inputs[i].rearmS ≠ 0 →
    exec (.rearmExpiry i) s =
      .next ((s.setInput i { s.inputs[i] with rearmUs := s.inputs[i].rearmS * 1000000 }).send (.input i level .unbound))) ∧
  ∀ (i : Fin 16) (s : State), (s.inputs[i].debounceRunning = false → exec (.senseDebounceDone i) s = .next s) ∧
    (s.inputs[i].rearmRunning = false → exec (.rearmExpiry i) s = .next s)

/-- SERVICE, RESUME, DOOR_CONFIG, the door and the resume timer change the service state by the table of R166 and the rules of R167, each
change with its notice; on leaving NORMAL every drive's duty, every active train's step and every block's duty becomes 0, the states
kept (R99, R109, R145, R168). That RESUME_TIMER_EXPIRY and DOOR_DEBOUNCE_DONE change nothing where their timer does not run is the
model's choice (log 3), and so is that a resume timer that stops keeps no remaining time (log 33). -/
def Obligations.ServiceFreezesAndResumesTheScene : Prop :=
  (∀ (tag : Byte) (s : State), s.service.state = .normal → s.canTake ⟨0x05#8, tag, []⟩ = true →
    ∃ u : State, exec (.service tag []) s = .next (u.reply 0x05#8 tag false) ∧
      u.service = { s.service with state := .service, cause := .request, resumeRunning := false, resumeUs := 0 } ∧
      (∀ d : Fin 4, u.drives[d].duty = 0 ∧ u.drives[d].direction = s.drives[d].direction ∧
        (∀ r, s.drives[d].kind = .rotary r →
          u.drives[d].kind = .rotary { r with setpoint := 0, integral := 0, stall := 0 }) ∧
        (∀ v, s.drives[d].kind = .traverse v → u.drives[d].kind = .traverse v)) ∧
      (∀ x : Fin 8, u.trains[x].state = s.trains[x].state ∧
        (s.trains[x].state = .stopped ∨ s.trains[x].state.driving = true → u.trains[x].step = 0 ∧ u.trains[x].ramp = 0)) ∧
      (∀ b : Fin 16, u.blockDuty b = 0) ∧
      u.clock = s.clock ∧ u.blocks = s.blocks ∧ u.crossings = s.crossings ∧ u.due = s.due ∧ u.dispatcher = s.dispatcher ∧
      (s.Listening → u.Tells (.service .service .request .normal))) ∧
  (∀ (tag : Byte) (s : State), s.service.state = .service → s.canTake ⟨0x05#8, tag, []⟩ = true →
    exec (.service tag []) s = .next (s.taken.reply 0x05#8 tag false)) ∧
  (∀ (tag : Byte) (s : State), s.service.state = .resumeWait → s.canTake ⟨0x05#8, tag, []⟩ = true →
    exec (.service tag []) s =
      .next (({ s.taken with
        service := { s.service with state := .service, cause := .request, resumeRunning := false, resumeUs := 0 } }.send
        (.service .service .request .resumeWait)).reply 0x05#8 tag false)) ∧
  (∀ (tag : Byte) (s : State), s.service.state ≠ .normal → s.door.level = false → s.canTake ⟨0x06#8, tag, []⟩ = true →
    ∃ u : State, exec (.resume tag []) s = .next (u.reply 0x06#8 tag false) ∧
      u.service = { s.service with state := .normal, cause := .clear, resumeRunning := false, resumeUs := 0 } ∧
      (∀ (d : Fin 4) (v : Traverse) (x : End), s.drives[d].kind = .traverse v → v.state = x.movingState →
        u.drives[d].duty = v.travelDuty ∧
          u.drives[d].kind = .traverse { v with travelRunning := true, travelMs := v.timeoutMs }) ∧
      (s.Listening → u.Tells (.service .normal .clear s.service.state))) ∧
  (∀ (tag : Byte) (s : State), s.door.level = true → s.canTake ⟨0x06#8, tag, []⟩ = true →
    exec (.resume tag []) s = .next (s.taken.answer 0x06#8 tag .stateConflict [])) ∧
  (∀ (tag : Byte) (s : State), s.service.state = .normal → s.door.level = false → s.canTake ⟨0x06#8, tag, []⟩ = true →
    exec (.resume tag []) s = .next (s.taken.reply 0x06#8 tag false)) ∧
  (∀ (tag a : Byte) (s : State), s.canTake ⟨0x5B#8, tag, [a]⟩ = true →
    exec (.doorConfig tag [a]) s =
      .next ({ s.taken with service := { s.service with autoResumeS := min 60 a.toNat } }.reply 0x5B#8 tag
        (decide (60 < a.toNat)))) ∧
  (∀ (high : Bool) (s : State), s.door.pin ≠ high →
    exec (.doorPinChange high) s =
      .next { s with
        door := { s.door with pin := high, debounceRunning := decide (s.door.level ≠ high), debounceUs := 0 } }) ∧
  (∀ s : State, s.door.debounceRunning = true → s.door.pin = true →
    ¬(s.service.state = .service ∧ s.service.cause = .door) →
    ∃ t : State, exec .doorDebounceDone s = .next t ∧ t.door.level = true ∧ t.service.state = .service ∧ t.service.cause = .door ∧
      t.service.resumeRunning = false ∧ (s.service.state = .normal → ∀ d : Fin 4, t.drives[d].duty = 0) ∧
      (s.Listening → t.Tells (.service .service .door s.service.state))) ∧
  (∀ s : State, s.door.debounceRunning = true → s.door.pin = true → s.service.state = .service → s.service.cause = .door →
    exec .doorDebounceDone s =
      .next { s with door := { s.door with level := true, debounceRunning := false, debounceUs := 0 } }) ∧
  (∀ s : State, s.door.debounceRunning = true → s.door.pin = false → s.service.state = .service → s.service.cause = .door →
    exec .doorDebounceDone s =
      .next
        (if s.service.autoResumeS = 0 then
          { s with door := { s.door with level := false, debounceRunning := false, debounceUs := 0 } }
         else
          { s with
            door := { s.door with level := false, debounceRunning := false, debounceUs := 0 }
            service :=
              { s.service with
                state := .resumeWait, cause := .door, resumeRunning := true, resumeUs := s.service.autoResumeS * 1000000 } }.send
            (.service .resumeWait .door .service))) ∧
  (∀ s : State, s.service.state = .resumeWait → s.service.resumeRunning = true →
    ∃ t : State, exec .resumeTimerExpiry s = .next t ∧
      t.service = { s.service with state := .normal, cause := .clear, resumeRunning := false, resumeUs := 0 } ∧
      (s.Listening → t.Tells (.service .normal .clear .resumeWait))) ∧
  ∀ s : State, (s.service.state ≠ .resumeWait → exec .resumeTimerExpiry s = .next s) ∧
    (s.door.debounceRunning = false → exec .doorDebounceDone s = .next s)

/-! ## SCENE_RESET (chapter 10) -/

/-- SCENE_RESET returns every unit to its starting condition by the table of R179 and is answered OK: the cues, the due list and the
action queue are emptied, fades, groups and effects restarted, drives stopped, trains removed, blocks and turnouts freed, and the
configured crossings set to OPEN or OPENING, a barrier commanded OPEN (R157), while clock, chain, paths, inputs, door and service state
are kept, and so are the kinds, settings, gains, directions and bindings of the drives but for the direction of a barrier sent to OPEN
(R95, R100). That a drive's timers that stop keep no remaining time is the model's (log 33). -/
def Obligations.SceneResetRestartsTheScene : Prop :=
  ∀ (tag : Byte) (s : State), s.canTake ⟨0x03#8, tag, []⟩ = true →
    ∃ u : State, exec (.sceneReset tag []) s = .next (u.reply 0x03#8 tag false) ∧ u.clock = s.clock ∧ u.cues = [] ∧ u.due = [] ∧
      u.dispatcher.actions = [] ∧ u.chain = s.chain ∧ u.paths = s.paths ∧ u.throwQueue = [] ∧ u.cdu = s.cdu ∧
      u.inputs = s.inputs ∧ u.door = s.door ∧ u.service = s.service ∧ u.lighting.lfsr = s.lighting.lfsr ∧
      u.lighting.flash = 0 ∧ (∀ g : Fin 16, u.lighting.groups[g] = ⟨1000, 1000, 0, 0⟩) ∧
      (∀ c : Fin 128, u.lighting.channels[c] =
        { s.lighting.channels[c] with
          fade := ⟨0, 0, 0, 0⟩, switching := .off, remaining := 0, position := 0
          held :=
            match s.lighting.channels[c].role with | .flicker min _ _ => min | _ => s.lighting.channels[c].held }) ∧
      (∀ x : Fin 8, u.trains[x] = Train.reset ∧
        u.turnouts[x] = { s.turnouts[x] with locks := 0, lockedAt := none, queued := none }) ∧
      (∀ b : Fin 16, u.blocks[b] =
        { s.blocks[b] with reservation := .free, holder := none, grant := none, waiting := [] }) ∧
      (∀ (d : Fin 4) (r : Rotary), s.drives[d].kind = .rotary r →
        u.drives[d] =
          { s.drives[d] with
            duty := 0
            kind :=
              .rotary
                { r with
                  state := .stopped, target := 0, setpoint := 0, integral := 0, history := [], counter := 0, subUs := 0
                  primed := false, durationRunning := false, durationMs := 0, homeRunning := false, homeMs := 0 } }) ∧
      (∀ d : Fin 4, s.drives[d].kind = .unconfigured → u.drives[d] = s.drives[d]) ∧
      (s.BarriersSound → ∀ (d : Fin 4) (v : Traverse), s.drives[d].kind = .traverse v → s.drives[d].bound = none →
        u.drives[d] =
          (if v.state = .movingOpen ∨ v.state = .movingClosed ∨ v.state = .fault then
            { s.drives[d] with duty := 0, kind := .traverse { v with state := .mid, travelRunning := false, travelMs := 0 } }
           else s.drives[d])) ∧
      (s.BarriersSound → ∀ (c : Fin 2) (d : Fin 4) (v : Traverse), s.crossings[c].barrier = some d →
        s.drives[d].kind = .traverse v →
        s.Raised u c d v ∧ u.drives[d].kp = s.drives[d].kp ∧ u.drives[d].ki = s.drives[d].ki ∧
          u.drives[d].bound = s.drives[d].bound) ∧
      (s.BarriersSound → ∀ c : Fin 2, s.crossings[c].block ≠ none → s.crossings[c].barrier = none →
        u.crossings[c] = s.crossings[c].entered .opened) ∧
      (∀ c : Fin 2, s.crossings[c].block ≠ none →
        u.crossings[c].block = s.crossings[c].block ∧ u.crossings[c].barrier = s.crossings[c].barrier ∧
          u.crossings[c].warningMs = s.crossings[c].warningMs ∧ u.crossings[c].timerRunning = false ∧
          u.crossings[c].timerUs = 0 ∧ (u.crossings[c].state = some .opened ∨ u.crossings[c].state = some .opening)) ∧
      (s.BarriersSound → s.crossings[(0 : Fin 2)].barrier = none → s.crossings[(1 : Fin 2)].barrier = none →
        u.link = s.taken.link) ∧
      (s.BarriersSound → ∀ c : Fin 2, s.crossings[c].block = none → u.crossings[c] = s.crossings[c])
end

