-- ==== Sys2Proof/Laws/State.lean ====
section
/-! SUPPORT. What each update of a record, a notice and a reply leave of State: one lemma per field per update. -/

namespace Sys2Proof.Machine

/-! ## setDrive -/

section

variable (s : State) (d : Fin 4) (x : Drive)

@[simp] theorem State.setDrive_pending : (s.setDrive d x).pending = s.pending := rfl
@[simp] theorem State.setDrive_clock : (s.setDrive d x).clock = s.clock := rfl
@[simp] theorem State.setDrive_cues : (s.setDrive d x).cues = s.cues := rfl
@[simp] theorem State.setDrive_due : (s.setDrive d x).due = s.due := rfl
@[simp] theorem State.setDrive_dispatcher : (s.setDrive d x).dispatcher = s.dispatcher := rfl
@[simp] theorem State.setDrive_lighting : (s.setDrive d x).lighting = s.lighting := rfl
@[simp] theorem State.setDrive_chain : (s.setDrive d x).chain = s.chain := rfl
@[simp] theorem State.setDrive_drives : (s.setDrive d x).drives = put s.drives d x := rfl
@[simp] theorem State.setDrive_blocks : (s.setDrive d x).blocks = s.blocks := rfl
@[simp] theorem State.setDrive_paths : (s.setDrive d x).paths = s.paths := rfl
@[simp] theorem State.setDrive_turnouts : (s.setDrive d x).turnouts = s.turnouts := rfl
@[simp] theorem State.setDrive_throwQueue : (s.setDrive d x).throwQueue = s.throwQueue := rfl
@[simp] theorem State.setDrive_cdu : (s.setDrive d x).cdu = s.cdu := rfl
@[simp] theorem State.setDrive_trains : (s.setDrive d x).trains = s.trains := rfl
@[simp] theorem State.setDrive_crossings : (s.setDrive d x).crossings = s.crossings := rfl
@[simp] theorem State.setDrive_inputs : (s.setDrive d x).inputs = s.inputs := rfl
@[simp] theorem State.setDrive_door : (s.setDrive d x).door = s.door := rfl
@[simp] theorem State.setDrive_service : (s.setDrive d x).service = s.service := rfl
@[simp] theorem State.setDrive_link : (s.setDrive d x).link = s.link := rfl
@[simp] theorem State.setDrive_periods : (s.setDrive d x).periods = s.periods := rfl
@[simp] theorem State.setDrive_freeCount : (s.setDrive d x).freeCount = s.freeCount := rfl

end

/-! ## setBlock -/

section

variable (s : State) (b : Fin 16) (x : Block)

@[simp] theorem State.setBlock_pending : (s.setBlock b x).pending = s.pending := rfl
@[simp] theorem State.setBlock_clock : (s.setBlock b x).clock = s.clock := rfl
@[simp] theorem State.setBlock_cues : (s.setBlock b x).cues = s.cues := rfl
@[simp] theorem State.setBlock_due : (s.setBlock b x).due = s.due := rfl
@[simp] theorem State.setBlock_dispatcher : (s.setBlock b x).dispatcher = s.dispatcher := rfl
@[simp] theorem State.setBlock_lighting : (s.setBlock b x).lighting = s.lighting := rfl
@[simp] theorem State.setBlock_chain : (s.setBlock b x).chain = s.chain := rfl
@[simp] theorem State.setBlock_drives : (s.setBlock b x).drives = s.drives := rfl
@[simp] theorem State.setBlock_blocks : (s.setBlock b x).blocks = put s.blocks b x := rfl
@[simp] theorem State.setBlock_paths : (s.setBlock b x).paths = s.paths := rfl
@[simp] theorem State.setBlock_turnouts : (s.setBlock b x).turnouts = s.turnouts := rfl
@[simp] theorem State.setBlock_throwQueue : (s.setBlock b x).throwQueue = s.throwQueue := rfl
@[simp] theorem State.setBlock_cdu : (s.setBlock b x).cdu = s.cdu := rfl
@[simp] theorem State.setBlock_trains : (s.setBlock b x).trains = s.trains := rfl
@[simp] theorem State.setBlock_crossings : (s.setBlock b x).crossings = s.crossings := rfl
@[simp] theorem State.setBlock_inputs : (s.setBlock b x).inputs = s.inputs := rfl
@[simp] theorem State.setBlock_door : (s.setBlock b x).door = s.door := rfl
@[simp] theorem State.setBlock_service : (s.setBlock b x).service = s.service := rfl
@[simp] theorem State.setBlock_link : (s.setBlock b x).link = s.link := rfl
@[simp] theorem State.setBlock_periods : (s.setBlock b x).periods = s.periods := rfl
@[simp] theorem State.setBlock_freeCount : (s.setBlock b x).freeCount = s.freeCount := rfl

end

/-! ## setTurnout -/

section

variable (s : State) (i : Fin 8) (x : Turnout)

@[simp] theorem State.setTurnout_pending : (s.setTurnout i x).pending = s.pending := rfl
@[simp] theorem State.setTurnout_clock : (s.setTurnout i x).clock = s.clock := rfl
@[simp] theorem State.setTurnout_cues : (s.setTurnout i x).cues = s.cues := rfl
@[simp] theorem State.setTurnout_due : (s.setTurnout i x).due = s.due := rfl
@[simp] theorem State.setTurnout_dispatcher : (s.setTurnout i x).dispatcher = s.dispatcher := rfl
@[simp] theorem State.setTurnout_lighting : (s.setTurnout i x).lighting = s.lighting := rfl
@[simp] theorem State.setTurnout_chain : (s.setTurnout i x).chain = s.chain := rfl
@[simp] theorem State.setTurnout_drives : (s.setTurnout i x).drives = s.drives := rfl
@[simp] theorem State.setTurnout_blocks : (s.setTurnout i x).blocks = s.blocks := rfl
@[simp] theorem State.setTurnout_paths : (s.setTurnout i x).paths = s.paths := rfl
@[simp] theorem State.setTurnout_turnouts : (s.setTurnout i x).turnouts = put s.turnouts i x := rfl
@[simp] theorem State.setTurnout_throwQueue : (s.setTurnout i x).throwQueue = s.throwQueue := rfl
@[simp] theorem State.setTurnout_cdu : (s.setTurnout i x).cdu = s.cdu := rfl
@[simp] theorem State.setTurnout_trains : (s.setTurnout i x).trains = s.trains := rfl
@[simp] theorem State.setTurnout_crossings : (s.setTurnout i x).crossings = s.crossings := rfl
@[simp] theorem State.setTurnout_inputs : (s.setTurnout i x).inputs = s.inputs := rfl
@[simp] theorem State.setTurnout_door : (s.setTurnout i x).door = s.door := rfl
@[simp] theorem State.setTurnout_service : (s.setTurnout i x).service = s.service := rfl
@[simp] theorem State.setTurnout_link : (s.setTurnout i x).link = s.link := rfl
@[simp] theorem State.setTurnout_periods : (s.setTurnout i x).periods = s.periods := rfl
@[simp] theorem State.setTurnout_freeCount : (s.setTurnout i x).freeCount = s.freeCount := rfl

end

/-! ## setTrain -/

section

variable (s : State) (i : Fin 8) (x : Train)

@[simp] theorem State.setTrain_pending : (s.setTrain i x).pending = s.pending := rfl
@[simp] theorem State.setTrain_clock : (s.setTrain i x).clock = s.clock := rfl
@[simp] theorem State.setTrain_cues : (s.setTrain i x).cues = s.cues := rfl
@[simp] theorem State.setTrain_due : (s.setTrain i x).due = s.due := rfl
@[simp] theorem State.setTrain_dispatcher : (s.setTrain i x).dispatcher = s.dispatcher := rfl
@[simp] theorem State.setTrain_lighting : (s.setTrain i x).lighting = s.lighting := rfl
@[simp] theorem State.setTrain_chain : (s.setTrain i x).chain = s.chain := rfl
@[simp] theorem State.setTrain_drives : (s.setTrain i x).drives = s.drives := rfl
@[simp] theorem State.setTrain_blocks : (s.setTrain i x).blocks = s.blocks := rfl
@[simp] theorem State.setTrain_paths : (s.setTrain i x).paths = s.paths := rfl
@[simp] theorem State.setTrain_turnouts : (s.setTrain i x).turnouts = s.turnouts := rfl
@[simp] theorem State.setTrain_throwQueue : (s.setTrain i x).throwQueue = s.throwQueue := rfl
@[simp] theorem State.setTrain_cdu : (s.setTrain i x).cdu = s.cdu := rfl
@[simp] theorem State.setTrain_trains : (s.setTrain i x).trains = put s.trains i x := rfl
@[simp] theorem State.setTrain_crossings : (s.setTrain i x).crossings = s.crossings := rfl
@[simp] theorem State.setTrain_inputs : (s.setTrain i x).inputs = s.inputs := rfl
@[simp] theorem State.setTrain_door : (s.setTrain i x).door = s.door := rfl
@[simp] theorem State.setTrain_service : (s.setTrain i x).service = s.service := rfl
@[simp] theorem State.setTrain_link : (s.setTrain i x).link = s.link := rfl
@[simp] theorem State.setTrain_periods : (s.setTrain i x).periods = s.periods := rfl
@[simp] theorem State.setTrain_freeCount : (s.setTrain i x).freeCount = s.freeCount := rfl

end

/-! ## setCrossing -/

section

variable (s : State) (c : Fin 2) (x : Crossing)

@[simp] theorem State.setCrossing_pending : (s.setCrossing c x).pending = s.pending := rfl
@[simp] theorem State.setCrossing_clock : (s.setCrossing c x).clock = s.clock := rfl
@[simp] theorem State.setCrossing_cues : (s.setCrossing c x).cues = s.cues := rfl
@[simp] theorem State.setCrossing_due : (s.setCrossing c x).due = s.due := rfl
@[simp] theorem State.setCrossing_dispatcher : (s.setCrossing c x).dispatcher = s.dispatcher := rfl
@[simp] theorem State.setCrossing_lighting : (s.setCrossing c x).lighting = s.lighting := rfl
@[simp] theorem State.setCrossing_chain : (s.setCrossing c x).chain = s.chain := rfl
@[simp] theorem State.setCrossing_drives : (s.setCrossing c x).drives = s.drives := rfl
@[simp] theorem State.setCrossing_blocks : (s.setCrossing c x).blocks = s.blocks := rfl
@[simp] theorem State.setCrossing_paths : (s.setCrossing c x).paths = s.paths := rfl
@[simp] theorem State.setCrossing_turnouts : (s.setCrossing c x).turnouts = s.turnouts := rfl
@[simp] theorem State.setCrossing_throwQueue : (s.setCrossing c x).throwQueue = s.throwQueue := rfl
@[simp] theorem State.setCrossing_cdu : (s.setCrossing c x).cdu = s.cdu := rfl
@[simp] theorem State.setCrossing_trains : (s.setCrossing c x).trains = s.trains := rfl
@[simp] theorem State.setCrossing_crossings : (s.setCrossing c x).crossings = put s.crossings c x := rfl
@[simp] theorem State.setCrossing_inputs : (s.setCrossing c x).inputs = s.inputs := rfl
@[simp] theorem State.setCrossing_door : (s.setCrossing c x).door = s.door := rfl
@[simp] theorem State.setCrossing_service : (s.setCrossing c x).service = s.service := rfl
@[simp] theorem State.setCrossing_link : (s.setCrossing c x).link = s.link := rfl
@[simp] theorem State.setCrossing_periods : (s.setCrossing c x).periods = s.periods := rfl
@[simp] theorem State.setCrossing_freeCount : (s.setCrossing c x).freeCount = s.freeCount := rfl

end

/-! ## setInput -/

section

variable (s : State) (i : Fin 16) (x : Input)

@[simp] theorem State.setInput_pending : (s.setInput i x).pending = s.pending := rfl
@[simp] theorem State.setInput_clock : (s.setInput i x).clock = s.clock := rfl
@[simp] theorem State.setInput_cues : (s.setInput i x).cues = s.cues := rfl
@[simp] theorem State.setInput_due : (s.setInput i x).due = s.due := rfl
@[simp] theorem State.setInput_dispatcher : (s.setInput i x).dispatcher = s.dispatcher := rfl
@[simp] theorem State.setInput_lighting : (s.setInput i x).lighting = s.lighting := rfl
@[simp] theorem State.setInput_chain : (s.setInput i x).chain = s.chain := rfl
@[simp] theorem State.setInput_drives : (s.setInput i x).drives = s.drives := rfl
@[simp] theorem State.setInput_blocks : (s.setInput i x).blocks = s.blocks := rfl
@[simp] theorem State.setInput_paths : (s.setInput i x).paths = s.paths := rfl
@[simp] theorem State.setInput_turnouts : (s.setInput i x).turnouts = s.turnouts := rfl
@[simp] theorem State.setInput_throwQueue : (s.setInput i x).throwQueue = s.throwQueue := rfl
@[simp] theorem State.setInput_cdu : (s.setInput i x).cdu = s.cdu := rfl
@[simp] theorem State.setInput_trains : (s.setInput i x).trains = s.trains := rfl
@[simp] theorem State.setInput_crossings : (s.setInput i x).crossings = s.crossings := rfl
@[simp] theorem State.setInput_inputs : (s.setInput i x).inputs = put s.inputs i x := rfl
@[simp] theorem State.setInput_door : (s.setInput i x).door = s.door := rfl
@[simp] theorem State.setInput_service : (s.setInput i x).service = s.service := rfl
@[simp] theorem State.setInput_link : (s.setInput i x).link = s.link := rfl
@[simp] theorem State.setInput_periods : (s.setInput i x).periods = s.periods := rfl
@[simp] theorem State.setInput_freeCount : (s.setInput i x).freeCount = s.freeCount := rfl

end

/-! ## send -/

section

variable (s : State) (n : Notice)

@[simp] theorem State.send_pending : (s.send n).pending = s.pending := rfl
@[simp] theorem State.send_clock : (s.send n).clock = s.clock := rfl
@[simp] theorem State.send_cues : (s.send n).cues = s.cues := rfl
@[simp] theorem State.send_due : (s.send n).due = s.due := rfl
@[simp] theorem State.send_dispatcher : (s.send n).dispatcher = s.dispatcher := rfl
@[simp] theorem State.send_lighting : (s.send n).lighting = s.lighting := rfl
@[simp] theorem State.send_chain : (s.send n).chain = s.chain := rfl
@[simp] theorem State.send_drives : (s.send n).drives = s.drives := rfl
@[simp] theorem State.send_blocks : (s.send n).blocks = s.blocks := rfl
@[simp] theorem State.send_paths : (s.send n).paths = s.paths := rfl
@[simp] theorem State.send_turnouts : (s.send n).turnouts = s.turnouts := rfl
@[simp] theorem State.send_throwQueue : (s.send n).throwQueue = s.throwQueue := rfl
@[simp] theorem State.send_cdu : (s.send n).cdu = s.cdu := rfl
@[simp] theorem State.send_trains : (s.send n).trains = s.trains := rfl
@[simp] theorem State.send_crossings : (s.send n).crossings = s.crossings := rfl
@[simp] theorem State.send_inputs : (s.send n).inputs = s.inputs := rfl
@[simp] theorem State.send_door : (s.send n).door = s.door := rfl
@[simp] theorem State.send_service : (s.send n).service = s.service := rfl
@[simp] theorem State.send_link : (s.send n).link = s.link.offer (s.clock.time / 10) n := rfl
@[simp] theorem State.send_periods : (s.send n).periods = s.periods := rfl
@[simp] theorem State.send_freeCount : (s.send n).freeCount = s.freeCount := rfl

end

/-! ## answer -/

section

variable (s : State) (kind tag : Byte) (result : Result) (data : List Byte)

@[simp] theorem State.answer_pending : (s.answer kind tag result data).pending = s.pending := rfl
@[simp] theorem State.answer_clock : (s.answer kind tag result data).clock = s.clock := rfl
@[simp] theorem State.answer_cues : (s.answer kind tag result data).cues = s.cues := rfl
@[simp] theorem State.answer_due : (s.answer kind tag result data).due = s.due := rfl
@[simp] theorem State.answer_dispatcher : (s.answer kind tag result data).dispatcher = s.dispatcher := rfl
@[simp] theorem State.answer_lighting : (s.answer kind tag result data).lighting = s.lighting := rfl
@[simp] theorem State.answer_chain : (s.answer kind tag result data).chain = s.chain := rfl
@[simp] theorem State.answer_drives : (s.answer kind tag result data).drives = s.drives := rfl
@[simp] theorem State.answer_blocks : (s.answer kind tag result data).blocks = s.blocks := rfl
@[simp] theorem State.answer_paths : (s.answer kind tag result data).paths = s.paths := rfl
@[simp] theorem State.answer_turnouts : (s.answer kind tag result data).turnouts = s.turnouts := rfl
@[simp] theorem State.answer_throwQueue : (s.answer kind tag result data).throwQueue = s.throwQueue := rfl
@[simp] theorem State.answer_cdu : (s.answer kind tag result data).cdu = s.cdu := rfl
@[simp] theorem State.answer_trains : (s.answer kind tag result data).trains = s.trains := rfl
@[simp] theorem State.answer_crossings : (s.answer kind tag result data).crossings = s.crossings := rfl
@[simp] theorem State.answer_inputs : (s.answer kind tag result data).inputs = s.inputs := rfl
@[simp] theorem State.answer_door : (s.answer kind tag result data).door = s.door := rfl
@[simp] theorem State.answer_service : (s.answer kind tag result data).service = s.service := rfl
@[simp] theorem State.answer_link : (s.answer kind tag result data).link = s.link.answer (encodeReply kind tag result data) := rfl
@[simp] theorem State.answer_periods : (s.answer kind tag result data).periods = s.periods := rfl
@[simp] theorem State.answer_freeCount : (s.answer kind tag result data).freeCount = s.freeCount := rfl

end

/-! ## reply -/

section

variable (s : State) (kind tag : Byte) (clamped : Bool)

@[simp] theorem State.reply_pending : (s.reply kind tag clamped).pending = s.pending := rfl
@[simp] theorem State.reply_clock : (s.reply kind tag clamped).clock = s.clock := rfl
@[simp] theorem State.reply_cues : (s.reply kind tag clamped).cues = s.cues := rfl
@[simp] theorem State.reply_due : (s.reply kind tag clamped).due = s.due := rfl
@[simp] theorem State.reply_dispatcher : (s.reply kind tag clamped).dispatcher = s.dispatcher := rfl
@[simp] theorem State.reply_lighting : (s.reply kind tag clamped).lighting = s.lighting := rfl
@[simp] theorem State.reply_chain : (s.reply kind tag clamped).chain = s.chain := rfl
@[simp] theorem State.reply_drives : (s.reply kind tag clamped).drives = s.drives := rfl
@[simp] theorem State.reply_blocks : (s.reply kind tag clamped).blocks = s.blocks := rfl
@[simp] theorem State.reply_paths : (s.reply kind tag clamped).paths = s.paths := rfl
@[simp] theorem State.reply_turnouts : (s.reply kind tag clamped).turnouts = s.turnouts := rfl
@[simp] theorem State.reply_throwQueue : (s.reply kind tag clamped).throwQueue = s.throwQueue := rfl
@[simp] theorem State.reply_cdu : (s.reply kind tag clamped).cdu = s.cdu := rfl
@[simp] theorem State.reply_trains : (s.reply kind tag clamped).trains = s.trains := rfl
@[simp] theorem State.reply_crossings : (s.reply kind tag clamped).crossings = s.crossings := rfl
@[simp] theorem State.reply_inputs : (s.reply kind tag clamped).inputs = s.inputs := rfl
@[simp] theorem State.reply_door : (s.reply kind tag clamped).door = s.door := rfl
@[simp] theorem State.reply_service : (s.reply kind tag clamped).service = s.service := rfl
@[simp] theorem State.reply_link : (s.reply kind tag clamped).link = s.link.answer (encodeReply kind tag (if clamped then .adjusted else .ok) []) := rfl
@[simp] theorem State.reply_periods : (s.reply kind tag clamped).periods = s.periods := rfl
@[simp] theorem State.reply_freeCount : (s.reply kind tag clamped).freeCount = s.freeCount := rfl

end

/-! ## taken -/

section

variable (s : State)

@[simp] theorem State.taken_pending : s.taken.pending = s.pending := rfl
@[simp] theorem State.taken_clock : s.taken.clock = s.clock := rfl
@[simp] theorem State.taken_cues : s.taken.cues = s.cues := rfl
@[simp] theorem State.taken_due : s.taken.due = s.due := rfl
@[simp] theorem State.taken_dispatcher : s.taken.dispatcher = s.dispatcher := rfl
@[simp] theorem State.taken_lighting : s.taken.lighting = s.lighting := rfl
@[simp] theorem State.taken_chain : s.taken.chain = s.chain := rfl
@[simp] theorem State.taken_drives : s.taken.drives = s.drives := rfl
@[simp] theorem State.taken_blocks : s.taken.blocks = s.blocks := rfl
@[simp] theorem State.taken_paths : s.taken.paths = s.paths := rfl
@[simp] theorem State.taken_turnouts : s.taken.turnouts = s.turnouts := rfl
@[simp] theorem State.taken_throwQueue : s.taken.throwQueue = s.throwQueue := rfl
@[simp] theorem State.taken_cdu : s.taken.cdu = s.cdu := rfl
@[simp] theorem State.taken_trains : s.taken.trains = s.trains := rfl
@[simp] theorem State.taken_crossings : s.taken.crossings = s.crossings := rfl
@[simp] theorem State.taken_inputs : s.taken.inputs = s.inputs := rfl
@[simp] theorem State.taken_door : s.taken.door = s.door := rfl
@[simp] theorem State.taken_service : s.taken.service = s.service := rfl
@[simp] theorem State.taken_link : s.taken.link = { s.link.transmit with slots := s.link.transmit.slots.tail } := rfl
@[simp] theorem State.taken_periods : s.taken.periods = s.periods := rfl
@[simp] theorem State.taken_freeCount : s.taken.freeCount = s.freeCount := rfl

end

/-! ## Lookups -/

@[simp] theorem put_get {α : Type} {n : Nat} (v : Vector α n) (i : Fin n) (x : α) (j : Nat) (h : j < n) :
    (put v i x)[j] = if i.val = j then x else v[j] := by
  simp [put, Vector.getElem_set]

theorem put_get_self {α : Type} {n : Nat} (v : Vector α n) (i : Fin n) (x : α) : (put v i x)[i] = x := by simp

theorem put_get_other {α : Type} {n : Nat} (v : Vector α n) (i j : Fin n) (x : α) (h : i ≠ j) : (put v i x)[j] = v[j] := by
  have : i.val ≠ j.val := fun e => h (Fin.ext e)
  simp [this]

@[simp] theorem mapTable_get {α : Type} {n : Nat} (f : Fin n → α → α) (v : Vector α n) (j : Nat) (h : j < n) :
    (mapTable f v)[j] = f ⟨j, h⟩ v[j] := by simp [mapTable]

theorem accumList_get {α σ : Type} (f : Nat → α → σ → α × σ) (n : Nat) (as : List α) (c : σ) (i : Nat) (h : i < as.length) :
    (accumList f n as c).1[i]'(by simpa [accumList_length] using h) = (f (n + i) as[i] (accumList f n (as.take i) c).2).1 := by
  induction as generalizing n c i with
  | nil => simp at h
  | cons a as ih =>
    cases i with
    | zero => simp [accumList]
    | succ i =>
      have := ih (n + 1) (f n a c).2 i (by simpa using h)
      simp only [accumList, List.getElem_cons_succ, List.take_succ_cons]
      rw [this]
      have e : n + 1 + i = n + (i + 1) := by omega
      rw [e]

theorem put_put {α : Type} {n : Nat} (v : Vector α n) (i : Fin n) (x y : α) : put (put v i x) i y = put v i y := by
  simp [put]

theorem put_self {α : Type} {n : Nat} (v : Vector α n) (i : Fin n) : put v i v[i] = v := by simp [put]

end Sys2Proof.Machine
end

