-- ==== Sys2Proof/Laws/Ops.lean ====
section
/-! SUPPORT. For each operation that the units share, once, everything it can do: the transmitter's choice, the offer of a notice, a
frame received, taken and answered, and a stored action offered. -/

namespace Sys2Proof.Machine

/-! ## The transmitter's choice (R175) -/

/-- The transmitter begins the oldest reply, else the first notice, else nothing. -/
theorem Link.transmit_cases (l : Link) :
    (l.transmitter = .idle ∧ ∃ r rest, l.replies = r :: rest ∧
        l.transmit = { l with transmitter := .reply (frameTime l.rate r) }) ∨
      (l.transmitter = .idle ∧ l.replies = [] ∧ ∃ n rest, l.notices = n :: rest ∧
        l.transmit = { l with transmitter := .notice n (frameTime l.rate (encodeNotice n)), notices := rest }) ∨
      (l.transmit = l ∧ (l.transmitter ≠ .idle ∨ (l.replies = [] ∧ l.notices = []))) := by
  unfold Link.transmit
  split
  · exact .inl ⟨‹_›, _, _, ‹_›, rfl⟩
  · exact .inr (.inl ⟨‹_›, ‹_›, _, _, ‹_›, rfl⟩)
  · next h1 h2 =>
    refine .inr (.inr ⟨rfl, ?_⟩)
    cases ht : l.transmitter with
    | idle =>
      cases hr : l.replies with
      | nil =>
        cases hn : l.notices with
        | nil => simp
        | cons n rest => exact absurd hn (h2 n rest ht hr)
      | cons r rest => exact absurd hr (h1 r rest ht)
    | _ => simp

theorem Link.transmit_busy (l : Link) (h : l.transmitter ≠ .idle) : l.transmit = l := by
  rcases l.transmit_cases with ⟨hi, _⟩ | ⟨hi, _⟩ | ⟨he, _⟩
  · exact absurd hi h
  · exact absurd hi h
  · exact he

/-- The choice touches the transmitter and the notice queue alone. -/
theorem Link.transmit_frame (l : Link) :
    l.transmit = { l with transmitter := l.transmit.transmitter, notices := l.transmit.notices } := by
  rcases l.transmit_cases with ⟨_, _, _, _, h⟩ | ⟨_, _, _, _, _, h⟩ | ⟨h, _⟩ <;> rw [h]

@[simp] theorem Link.transmit_rate (l : Link) : l.transmit.rate = l.rate := by rw [l.transmit_frame]
@[simp] theorem Link.transmit_assembler (l : Link) : l.transmit.assembler = l.assembler := by rw [l.transmit_frame]
@[simp] theorem Link.transmit_gap (l : Link) : l.transmit.gap = l.gap := by rw [l.transmit_frame]
@[simp] theorem Link.transmit_slots (l : Link) : l.transmit.slots = l.slots := by rw [l.transmit_frame]
@[simp] theorem Link.transmit_replies (l : Link) : l.transmit.replies = l.replies := by rw [l.transmit_frame]
@[simp] theorem Link.transmit_mask (l : Link) : l.transmit.mask = l.mask := by rw [l.transmit_frame]
@[simp] theorem Link.transmit_lost (l : Link) : l.transmit.lost = l.lost := by rw [l.transmit_frame]
@[simp] theorem Link.transmit_rejections (l : Link) : l.transmit.rejections = l.rejections := by rw [l.transmit_frame]

/-- The choice takes at most one notice from the queue. -/
theorem Link.transmit_notices (l : Link) : l.transmit.notices = l.notices ∨ l.transmit.notices = l.notices.tail := by
  rcases l.transmit_cases with ⟨_, _, _, _, h⟩ | ⟨_, _, n, rest, hn, h⟩ | ⟨h, _⟩ <;> simp [h]
  simp [hn]

theorem Link.transmit_notices_length (l : Link) : l.transmit.notices.length ≤ l.notices.length := by
  rcases l.transmit_notices with h | h <;> simp [h]

/-! ## A notice offered (R176) -/

/-- What an offer can do: nothing, a loss counted, the notice joined, NOTICES_LOST and the notice joined, or NOTICES_LOST alone. -/
theorem Link.offer_cases (l : Link) (time : Nat) (n : Notice) :
    (n.enabled l.mask = false ∧ l.offer time n = l) ∨
      (32 ≤ l.notices.length ∧ l.offer time n = { l with lost := min 255 (l.lost + 1) }) ∨
      (l.lost = 0 ∧ l.notices.length < 32 ∧ l.offer time n = l.join ⟨time, n⟩) ∨
      (l.lost ≠ 0 ∧ l.notices.length + 2 ≤ 32 ∧
        l.offer time n = ({ l.join ⟨time, .noticesLost l.lost⟩ with lost := 0 }).join ⟨time, n⟩) ∨
      (l.lost ≠ 0 ∧ l.notices.length = 31 ∧ l.offer time n = { l.join ⟨time, .noticesLost l.lost⟩ with lost := 1 }) := by
  unfold Link.offer
  split
  · next h => exact .inl ⟨by simpa using h, rfl⟩
  · split
    · exact .inr (.inl ⟨‹_›, rfl⟩)
    · split
      · exact .inr (.inr (.inl ⟨‹_›, by omega, rfl⟩))
      · split
        · exact .inr (.inr (.inr (.inl ⟨‹_›, ‹_›, rfl⟩)))
        · exact .inr (.inr (.inr (.inr ⟨‹_›, by omega, rfl⟩)))

@[simp] theorem Link.offer_rate (l : Link) (t : Nat) (n : Notice) : (l.offer t n).rate = l.rate := by
  rcases l.offer_cases t n with ⟨_, h⟩ | ⟨_, h⟩ | ⟨_, _, h⟩ | ⟨_, _, h⟩ | ⟨_, _, h⟩ <;> simp [h, Link.join]
@[simp] theorem Link.offer_assembler (l : Link) (t : Nat) (n : Notice) : (l.offer t n).assembler = l.assembler := by
  rcases l.offer_cases t n with ⟨_, h⟩ | ⟨_, h⟩ | ⟨_, _, h⟩ | ⟨_, _, h⟩ | ⟨_, _, h⟩ <;> simp [h, Link.join]
@[simp] theorem Link.offer_gap (l : Link) (t : Nat) (n : Notice) : (l.offer t n).gap = l.gap := by
  rcases l.offer_cases t n with ⟨_, h⟩ | ⟨_, h⟩ | ⟨_, _, h⟩ | ⟨_, _, h⟩ | ⟨_, _, h⟩ <;> simp [h, Link.join]
@[simp] theorem Link.offer_slots (l : Link) (t : Nat) (n : Notice) : (l.offer t n).slots = l.slots := by
  rcases l.offer_cases t n with ⟨_, h⟩ | ⟨_, h⟩ | ⟨_, _, h⟩ | ⟨_, _, h⟩ | ⟨_, _, h⟩ <;> simp [h, Link.join]
@[simp] theorem Link.offer_replies (l : Link) (t : Nat) (n : Notice) : (l.offer t n).replies = l.replies := by
  rcases l.offer_cases t n with ⟨_, h⟩ | ⟨_, h⟩ | ⟨_, _, h⟩ | ⟨_, _, h⟩ | ⟨_, _, h⟩ <;> simp [h, Link.join]
@[simp] theorem Link.offer_mask (l : Link) (t : Nat) (n : Notice) : (l.offer t n).mask = l.mask := by
  rcases l.offer_cases t n with ⟨_, h⟩ | ⟨_, h⟩ | ⟨_, _, h⟩ | ⟨_, _, h⟩ | ⟨_, _, h⟩ <;> simp [h, Link.join]
@[simp] theorem Link.offer_rejections (l : Link) (t : Nat) (n : Notice) : (l.offer t n).rejections = l.rejections := by
  rcases l.offer_cases t n with ⟨_, h⟩ | ⟨_, h⟩ | ⟨_, _, h⟩ | ⟨_, _, h⟩ | ⟨_, _, h⟩ <;> simp [h, Link.join]

/-- An offer touches the transmitter, the notice queue and the lost count alone. -/
theorem Link.offer_frame (l : Link) (t : Nat) (n : Notice) :
    l.offer t n =
      { l with transmitter := (l.offer t n).transmitter, notices := (l.offer t n).notices, lost := (l.offer t n).lost } := by
  have h1 := l.offer_rate t n; have h2 := l.offer_assembler t n; have h3 := l.offer_gap t n; have h4 := l.offer_slots t n
  have h5 := l.offer_replies t n; have h6 := l.offer_mask t n; have h7 := l.offer_rejections t n
  generalize l.offer t n = x at *
  cases x; simp_all

theorem Link.join_notices_length (l : Link) (n : Stamped) : (l.join n).notices.length ≤ l.notices.length + 1 := by
  have := ({ l with notices := l.notices ++ [n] } : Link).transmit_notices_length
  simpa [Link.join] using this

/-- The notice queue never holds more than 32. -/
theorem Link.offer_notices_length (l : Link) (t : Nat) (n : Notice) (h : l.notices.length ≤ 32) :
    (l.offer t n).notices.length ≤ 32 := by
  rcases l.offer_cases t n with ⟨_, e⟩ | ⟨_, e⟩ | ⟨_, hl, e⟩ | ⟨_, hl, e⟩ | ⟨_, hl, e⟩ <;> rw [e]
  · exact h
  · exact h
  · have := l.join_notices_length ⟨t, n⟩; omega
  · have h1 := l.join_notices_length ⟨t, .noticesLost l.lost⟩
    exact Nat.le_trans (Link.join_notices_length _ _) (by simp only; omega)
  · have := l.join_notices_length ⟨t, .noticesLost l.lost⟩; simp only; omega

/-- With the class enabled, nothing lost, room in the queue and a frame on the line, the notice joins at the tail. -/
theorem Link.offer_joins (l : Link) (t : Nat) (n : Notice) (he : n.enabled l.mask = true) (hl : l.lost = 0)
    (hn : l.notices.length < 32) (ht : l.transmitter ≠ .idle) :
    l.offer t n = { l with notices := l.notices ++ [⟨t, n⟩] } := by
  have h32 : ¬32 ≤ l.notices.length := by omega
  simp only [Link.offer, he, hl, h32, Link.join, Bool.not_true, Bool.false_eq_true, if_false, if_true]
  exact Link.transmit_busy _ ht

/-! ## Frames received, taken and answered (R34, R173, R174) -/

theorem Link.receive_cases (l : Link) (f : Frame) :
    (l.slots.length < 2 ∧ l.receive f = { l with slots := l.slots ++ [f] }) ∨
      (2 ≤ l.slots.length ∧
        l.receive f = { l with rejections := { l.rejections with full := min 65535 (l.rejections.full + 1) } }) := by
  unfold Link.receive
  split
  · exact .inl ⟨‹_›, rfl⟩
  · exact .inr ⟨by omega, rfl⟩

@[simp] theorem Link.answer_replies (l : Link) (f : Frame) : (l.answer f).replies = l.replies ++ [f] := by simp [Link.answer]
@[simp] theorem Link.answer_slots (l : Link) (f : Frame) : (l.answer f).slots = l.slots := by simp [Link.answer]
@[simp] theorem Link.answer_rejections (l : Link) (f : Frame) : (l.answer f).rejections = l.rejections := by
  simp [Link.answer]
@[simp] theorem Link.answer_mask (l : Link) (f : Frame) : (l.answer f).mask = l.mask := by simp [Link.answer]
@[simp] theorem Link.answer_lost (l : Link) (f : Frame) : (l.answer f).lost = l.lost := by simp [Link.answer]

/-- When a frame may be taken. -/
theorem State.canTake_iff (s : State) (f : Frame) :
    s.canTake f = true ↔
      s.dispatcher.busy = none ∧ (s.service.state = .normal → s.dispatcher.actions = []) ∧ s.link.replies.length < 2 ∧
        (s.link.slots = [] ∨ s.link.slots.head? = some f) := by
  simp only [State.canTake, State.isNormal, Bool.and_eq_true, Option.isNone_iff_eq_none, Bool.not_eq_true', Bool.and_eq_false_iff,
    beq_eq_false_iff_ne, decide_eq_true_eq, Bool.or_eq_true, List.isEmpty_iff, beq_iff_eq, Bool.not_eq_false', and_assoc]
  constructor
  · rintro ⟨h1, h2, h3, h4⟩
    exact ⟨h1, fun hn => h2.resolve_left (fun hne => hne hn), h3, h4⟩
  · rintro ⟨h1, h2, h3, h4⟩
    refine ⟨h1, ?_, h3, h4⟩
    by_cases hn : s.service.state = .normal
    · exact .inr (h2 hn)
    · exact .inl hn

/-- What a request command can do: it does not exist, its frame is taken, performed and answered or held, or the frame waits or is
discarded. -/
theorem hostRequest_cases (kind tag : Byte) (payload : List Byte) (perform : State → Performed) (s : State) :
    (62 < payload.length ∧ hostRequest kind tag payload perform s = .refused .illFormed) ∨
      (payload.length ≤ 62 ∧ s.canTake ⟨kind, tag, payload⟩ = true ∧
        ((∃ result data, (perform s.taken).reply = some (result, data) ∧
            hostRequest kind tag payload perform s = .next ((perform s.taken).state.answer kind tag result data)) ∨
          ((perform s.taken).reply = none ∧ hostRequest kind tag payload perform s = .next (perform s.taken).state))) ∨
      (payload.length ≤ 62 ∧ s.canTake ⟨kind, tag, payload⟩ = false ∧
        hostRequest kind tag payload perform s = .next { s with link := s.link.receive ⟨kind, tag, payload⟩ }) := by
  unfold hostRequest
  split
  · exact .inl ⟨‹_›, rfl⟩
  · next hl =>
    split
    · next hc =>
      refine .inr (.inl ⟨by omega, hc, ?_⟩)
      cases hp : (perform s.taken).reply with
      | none => exact .inr ⟨rfl, by simp [hp]⟩
      | some r => exact .inl ⟨r.1, r.2, rfl, by simp [hp]⟩
    · next hc => exact .inr (.inr ⟨by omega, by simpa using hc, rfl⟩)

/-- A taken request that is performed at once ends in the performed state with its reply. -/
theorem hostRequest_taken {kind tag : Byte} {payload : List Byte} {perform : State → Performed} {s t : State} {result : Result}
    {data : List Byte} (hl : payload.length ≤ 62) (hc : s.canTake ⟨kind, tag, payload⟩ = true)
    (hp : perform s.taken = ⟨t, some (result, data)⟩) :
    hostRequest kind tag payload perform s = .next (t.answer kind tag result data) := by
  have : ¬62 < payload.length := by omega
  simp [hostRequest, this, hc, hp]

@[simp] theorem refuse_eq (r : Result) (s : State) : refuse r s = ⟨s, some (r, [])⟩ := rfl

@[simp] theorem performed_eq (b : Bool) (s : State) : performed b s = ⟨s, some (if b then .adjusted else .ok, [])⟩ := rfl

@[simp] theorem report_eq (data : List Byte) (s : State) : report data s = ⟨s, some (.ok, data)⟩ := rfl

/-! ## Stored actions offered (R33) -/

theorem State.offerAction_cases (s : State) (e : ActionEntry) :
    (s.dispatcher.actions.length < 16 ∧
        s.offerAction e = ({ s with dispatcher := { s.dispatcher with actions := s.dispatcher.actions ++ [e] } }, true)) ∨
      (16 ≤ s.dispatcher.actions.length ∧
        s.offerAction e = (s.send (.actionFailed e.source e.action.kind .tableFull), false)) := by
  unfold State.offerAction
  split
  · exact .inl ⟨‹_›, rfl⟩
  · exact .inr ⟨by omega, rfl⟩

/-- The action queue never holds more than 16 entries. -/
theorem State.offerAction_length (s : State) (e : ActionEntry) (h : s.dispatcher.actions.length ≤ 16) :
    (s.offerAction e).1.dispatcher.actions.length ≤ 16 := by
  rcases s.offerAction_cases e with ⟨hl, he⟩ | ⟨_, he⟩ <;> simp [he]
  · omega
  · exact h

end Sys2Proof.Machine
end

