-- ==== Sys2Proof/Laws/Step.lean ====
section
/-! SUPPORT. What an idle step can do, and the lists of commands that claims execute. -/

namespace Sys2Proof.Machine

/-- An idle step begins a frame, performs an event that has fallen due, or lets a microsecond pass. -/
theorem State.idle_cases (s : State) :
    (s.link.canBegin = true ∧ s.idle = .next { s with link := s.link.transmit }) ∨
      (s.link.canBegin = false ∧ ∃ c, s.nextEvent = some c ∧ s.idle = exec c (s.begin c)) ∨
      (s.link.canBegin = false ∧ s.nextEvent = none ∧ s.idle = .next s.tick) := by
  unfold State.idle
  split
  · exact .inl ⟨‹_›, rfl⟩
  · next h =>
    have h : s.link.canBegin = false := by simpa using h
    cases he : s.nextEvent with
    | some c => exact .inr (.inl ⟨h, c, rfl, rfl⟩)
    | none => exact .inr (.inr ⟨h, rfl, rfl⟩)

/-- A command begun by an idle step finds every unit as it stood; only its periodic timer or the free counter has moved. -/
theorem State.begin_frame (s : State) (c : Instr) :
    s.begin c = { s with periods := (s.begin c).periods, freeCount := (s.begin c).freeCount } := by
  cases c <;> rfl

@[simp] theorem execAll_nil (s : State) : execAll [] s = .next s := rfl

theorem execAll_cons (c : Instr) (rest : List Instr) {s t : State} (h : exec c s = .next t) :
    execAll (c :: rest) s = execAll rest t := by simp [execAll, h]

theorem execAll_append (a b : List Instr) {s t : State} (h : execAll a s = .next t) : execAll (a ++ b) s = execAll b t := by
  induction a generalizing s with
  | nil =>
    simp only [execAll_nil, Host.Outcome.next.injEq] at h
    rw [List.nil_append, h]
  | cons c rest ih =>
    simp only [execAll] at h
    cases hc : exec c s with
    | next u =>
      rw [hc] at h
      rw [List.cons_append, execAll_cons c _ hc]
      exact ih h
    | fault r => rw [hc] at h; simp at h
    | refused r => rw [hc] at h; simp at h

end Sys2Proof.Machine
end

