-- ==== Sys2Proof/Laws/Track.lean ====
section
/-! SUPPORT. What the operations of the track controller, the crossing unit and the TRAVERSE drives leave unchanged: each touches
drives, blocks, turnouts, the throw queue, the discharge unit, trains, crossings, the transmitter, the notice queue and the lost count
alone. -/

namespace Sys2Proof.Machine

/-- The state with everything that the track operations touch set to one value. -/
def State.elsewhere (s : State) : State :=
  { s with
    drives := Vector.replicate 4 Drive.reset, blocks := Vector.replicate 16 (Block.reset false)
    turnouts := Vector.replicate 8 Turnout.reset, throwQueue := [], cdu := ⟨.ready, 0, 0⟩
    trains := Vector.replicate 8 Train.reset, crossings := Vector.replicate 2 Crossing.reset
    link := { s.link with transmitter := .idle, notices := [], lost := 0 } }

/-! What ending an approach and stopping a drive's timers leaves of each item that a statement reads. -/

@[simp] theorem Train.quitApproach_phase (x : Train) : x.quitApproach.phase = .inactive := rfl
@[simp] theorem Train.quitApproach_approachMs (x : Train) : x.quitApproach.approachMs = 0 := rfl
@[simp] theorem Train.quitApproach_state (x : Train) : x.quitApproach.state = x.state := rfl
@[simp] theorem Train.quitApproach_head (x : Train) : x.quitApproach.head = x.head := rfl
@[simp] theorem Train.quitApproach_tail (x : Train) : x.quitApproach.tail = x.tail := rfl
@[simp] theorem Train.quitApproach_next (x : Train) : x.quitApproach.next = x.next := rfl
@[simp] theorem Train.quitApproach_route (x : Train) : x.quitApproach.route = x.route := rfl
@[simp] theorem Train.quitApproach_step (x : Train) : x.quitApproach.step = x.step := rfl
@[simp] theorem Train.quitApproach_stopPending (x : Train) : x.quitApproach.stopPending = x.stopPending := rfl
@[simp] theorem Train.quitApproach_waitingFor (x : Train) : x.quitApproach.waitingFor = x.waitingFor := rfl
@[simp] theorem Traverse.stopTimer_state (v : Traverse) : v.stopTimer.state = v.state := rfl
@[simp] theorem Traverse.stopTimer_travelRunning (v : Traverse) : v.stopTimer.travelRunning = false := rfl
@[simp] theorem Traverse.stopTimer_travelMs (v : Traverse) : v.stopTimer.travelMs = 0 := rfl

section Fields

variable {s t : State} (h : t.elsewhere = s.elsewhere)
include h

theorem State.elsewhere_pending : t.pending = s.pending := by have e := congrArg State.pending h; exact e
theorem State.elsewhere_clock : t.clock = s.clock := by have e := congrArg State.clock h; exact e
theorem State.elsewhere_cues : t.cues = s.cues := by have e := congrArg State.cues h; exact e
theorem State.elsewhere_due : t.due = s.due := by have e := congrArg State.due h; exact e
theorem State.elsewhere_dispatcher : t.dispatcher = s.dispatcher := by have e := congrArg State.dispatcher h; exact e
theorem State.elsewhere_lighting : t.lighting = s.lighting := by have e := congrArg State.lighting h; exact e
theorem State.elsewhere_chain : t.chain = s.chain := by have e := congrArg State.chain h; exact e
theorem State.elsewhere_paths : t.paths = s.paths := by have e := congrArg State.paths h; exact e
theorem State.elsewhere_inputs : t.inputs = s.inputs := by have e := congrArg State.inputs h; exact e
theorem State.elsewhere_door : t.door = s.door := by have e := congrArg State.door h; exact e
theorem State.elsewhere_service : t.service = s.service := by have e := congrArg State.service h; exact e
theorem State.elsewhere_periods : t.periods = s.periods := by have e := congrArg State.periods h; exact e
theorem State.elsewhere_freeCount : t.freeCount = s.freeCount := by have e := congrArg State.freeCount h; exact e
theorem State.elsewhere_slots : t.link.slots = s.link.slots := by have e := congrArg (fun u : State => u.link.slots) h; exact e
theorem State.elsewhere_replies : t.link.replies = s.link.replies := by have e := congrArg (fun u : State => u.link.replies) h; exact e
theorem State.elsewhere_mask : t.link.mask = s.link.mask := by have e := congrArg (fun u : State => u.link.mask) h; exact e

end Fields

/-! ## Records and notices -/

@[simp] theorem State.setDrive_elsewhere (s : State) (d : Fin 4) (x : Drive) : (s.setDrive d x).elsewhere = s.elsewhere := rfl
@[simp] theorem State.setBlock_elsewhere (s : State) (b : Fin 16) (x : Block) : (s.setBlock b x).elsewhere = s.elsewhere := rfl
@[simp] theorem State.setTurnout_elsewhere (s : State) (i : Fin 8) (x : Turnout) :
    (s.setTurnout i x).elsewhere = s.elsewhere := rfl
@[simp] theorem State.setTrain_elsewhere (s : State) (i : Fin 8) (x : Train) : (s.setTrain i x).elsewhere = s.elsewhere := rfl
@[simp] theorem State.setCrossing_elsewhere (s : State) (c : Fin 2) (x : Crossing) :
    (s.setCrossing c x).elsewhere = s.elsewhere := rfl
@[simp] theorem State.throwQueue_elsewhere (s : State) (q : List (Fin 8)) :
    ({ s with throwQueue := q } : State).elsewhere = s.elsewhere := rfl

@[simp] theorem State.send_elsewhere (s : State) (n : Notice) : (s.send n).elsewhere = s.elsewhere := by
  unfold State.send State.elsewhere
  rw [s.link.offer_frame]

/-- A fold of operations that keep everything elsewhere keeps it. -/
theorem foldl_elsewhere {α : Type} (f : State → α → State) (hf : ∀ s a, (f s a).elsewhere = s.elsewhere) (l : List α) (s : State) :
    (l.foldl f s).elsewhere = s.elsewhere := by
  induction l generalizing s with
  | nil => rfl
  | cons a l ih => rw [List.foldl_cons, ih, hf]

/-! ## Turnouts and the discharge unit -/

@[simp] theorem State.startHolder_elsewhere (s : State) (b : Fin 16) : (s.startHolder b).elsewhere = s.elsewhere := by
  unfold State.startHolder
  split
  · rfl
  · dsimp only; split <;> simp

@[simp] theorem State.tryReserve_elsewhere (s : State) (b : Fin 16) : (s.tryReserve b).elsewhere = s.elsewhere := by
  unfold State.tryReserve
  dsimp only; split <;> simp

@[simp] theorem State.testTurnout_elsewhere (s : State) (t : Fin 8) : (s.testTurnout t).elsewhere = s.elsewhere :=
  foldl_elsewhere _ (fun s b => by split <;> simp) _ _

theorem State.takeThrows_elsewhere (q : List (Fin 8)) (s : State) : (State.takeThrows q s).elsewhere = s.elsewhere := by
  induction q generalizing s with
  | nil => rfl
  | cons t rest ih =>
    unfold State.takeThrows
    dsimp only
    split
    · exact ih s
    · split
      · rw [ih, State.testTurnout_elsewhere]; rfl
      · rfl

@[simp] theorem State.cduTest_elsewhere (s : State) : s.cduTest.elsewhere = s.elsewhere := by
  unfold State.cduTest
  split
  · exact State.takeThrows_elsewhere _ _
  · rfl

@[simp] theorem State.queueThrow_elsewhere (s : State) (t : Fin 8) (x : Points) : (s.queueThrow t x).elsewhere = s.elsewhere := by
  rw [State.queueThrow, State.cduTest_elsewhere]; rfl

@[simp] theorem State.lock_elsewhere (s : State) (n : Need) : (s.lock n).elsewhere = s.elsewhere := by
  unfold State.lock
  dsimp only
  split
  · simp
  · split <;> simp

@[simp] theorem State.unlock_elsewhere (s : State) (n : Need) : (s.unlock n).elsewhere = s.elsewhere := rfl

/-! ## Barriers and crossings -/

@[simp] theorem State.crossingEnd_elsewhere (s : State) (c : Fin 2) (x : End) : (s.crossingEnd c x).elsewhere = s.elsewhere := by
  unfold State.crossingEnd
  dsimp only
  split
  · split <;> simp
  · simp
  · rfl

@[simp] theorem State.crossingFault_elsewhere (s : State) (c : Fin 2) (x : End) :
    (s.crossingFault c x).elsewhere = s.elsewhere := by
  unfold State.crossingFault
  dsimp only; split <;> simp

@[simp] theorem State.reachEnd_elsewhere (s : State) (d : Fin 4) (v : Traverse) (x : End) :
    (s.reachEnd d v x).elsewhere = s.elsewhere := by
  unfold State.reachEnd
  dsimp only; split <;> simp

@[simp] theorem State.move_elsewhere (s : State) (d : Fin 4) (x : End) : (s.move d x).elsewhere = s.elsewhere := by
  unfold State.move
  dsimp only
  split
  · split
    · simp
    · split <;> simp
  · rfl

@[simp] theorem State.lower_elsewhere (s : State) (c : Fin 2) : (s.lower c).elsewhere = s.elsewhere := by
  unfold State.lower
  dsimp only; split <;> simp

@[simp] theorem State.raise_elsewhere (s : State) (c : Fin 2) (n : Bool) : (s.raise c n).elsewhere = s.elsewhere := by
  unfold State.raise
  dsimp only
  split
  · simp
  · split <;> simp

@[simp] theorem State.warningExpires_elsewhere (s : State) (c : Fin 2) : (s.warningExpires c).elsewhere = s.elsewhere := by
  unfold State.warningExpires; split <;> simp

@[simp] theorem State.crossingGranted_elsewhere (s : State) (b : Fin 16) : (s.crossingGranted b).elsewhere = s.elsewhere := by
  unfold State.crossingGranted
  split
  · rfl
  · dsimp only
    split
    · split <;> simp
    · simp
    · rfl

@[simp] theorem State.crossingReleased_elsewhere (s : State) (b : Fin 16) : (s.crossingReleased b).elsewhere = s.elsewhere := by
  unfold State.crossingReleased
  split
  · rfl
  · split <;> simp

/-! ## Grants, releases and movement -/

@[simp] theorem State.leaveList_elsewhere (s : State) (t : Fin 8) : (s.leaveList t).elsewhere = s.elsewhere := by
  unfold State.leaveList; split <;> simp

@[simp] theorem State.grantBlock_elsewhere (s : State) (t : Fin 8) (b : Fin 16) (p : Path) :
    (s.grantBlock t b p).elsewhere = s.elsewhere := by
  simp [State.grantBlock, foldl_elsewhere State.lock State.lock_elsewhere]

@[simp] theorem State.askNext_elsewhere (s : State) (t : Fin 8) : (s.askNext t).elsewhere = s.elsewhere := by
  unfold State.askNext
  split
  · rfl
  · dsimp only
    split
    · split <;> simp
    · simp

@[simp] theorem State.freeBlock_elsewhere (s : State) (b : Fin 16) : (s.freeBlock b).elsewhere = s.elsewhere := by
  unfold State.freeBlock
  dsimp only
  rw [foldl_elsewhere State.unlock State.unlock_elsewhere]
  split <;> simp

@[simp] theorem State.release_elsewhere (s : State) (b : Fin 16) : (s.release b).elsewhere = s.elsewhere := by
  simp [State.release]

@[simp] theorem State.releaseIf_elsewhere (s : State) (b : Option (Fin 16)) : (s.releaseIf b).elsewhere = s.elsewhere := by
  cases b <;> simp [State.releaseIf]

@[simp] theorem State.passBlock_elsewhere (s : State) (b : Fin 16) : (s.passBlock b).elsewhere = s.elsewhere := by
  unfold State.passBlock
  split
  · rfl
  · split
    · split <;> simp
    · rfl

@[simp] theorem State.grantPass_elsewhere (s : State) : s.grantPass.elsewhere = s.elsewhere :=
  foldl_elsewhere _ State.passBlock_elsewhere _ _

@[simp] theorem State.enterApproach_elsewhere (s : State) (t : Fin 8) : (s.enterApproach t).elsewhere = s.elsewhere := by
  unfold State.enterApproach
  dsimp only
  split
  · rfl
  · split
    · simp
    · split <;> simp

@[simp] theorem State.enterTrouble_elsewhere (s : State) (t : Fin 8) (x : TrainState) (c : TrainCause) (e : TrainEvent) :
    (s.enterTrouble t x c e).elsewhere = s.elsewhere := by simp [State.enterTrouble]

@[simp] theorem State.lose_elsewhere (s : State) (t : Fin 8) (c : TrainCause) : (s.lose t c).elsewhere = s.elsewhere := by
  simp [State.lose]

@[simp] theorem State.faultTrain_elsewhere (s : State) (t : Fin 8) (c : TrainCause) (b : Fin 16) :
    (s.faultTrain t c b).elsewhere = s.elsewhere := by simp [State.faultTrain]

@[simp] theorem State.advance_elsewhere (s : State) (t : Fin 8) (b : Fin 16) : (s.advance t b).elsewhere = s.elsewhere := by
  unfold State.advance
  dsimp only
  split
  · split
    · split <;> simp
    · split <;> simp
  · split <;> simp

@[simp] theorem State.headCleared_elsewhere (s : State) (t : Fin 8) : (s.headCleared t).elsewhere = s.elsewhere := by
  unfold State.headCleared; split <;> simp

@[simp] theorem State.clearedHolder_elsewhere (s : State) (t : Fin 8) (b : Fin 16) :
    (s.clearedHolder t b).elsewhere = s.elsewhere := by
  unfold State.clearedHolder
  dsimp only
  split
  · rfl
  · split
    · split <;> simp
    · split <;> simp

@[simp] theorem State.becomesClear_elsewhere (s : State) (b : Fin 16) : (s.becomesClear b).elsewhere = s.elsewhere := by
  unfold State.becomesClear; split <;> simp

@[simp] theorem State.intrusion_elsewhere (s : State) (b : Fin 16) : (s.intrusion b).elsewhere = s.elsewhere := by
  unfold State.intrusion
  dsimp only
  split <;> simp [foldl_elsewhere (fun (s : State) (t : Fin 8) => s.faultTrain t .intrusion b)
    (fun s t => s.faultTrain_elsewhere t .intrusion b)]

@[simp] theorem State.becomesOccupied_elsewhere (s : State) (b : Fin 16) : (s.becomesOccupied b).elsewhere = s.elsewhere := by
  unfold State.becomesOccupied
  split
  · simp
  · split <;> simp
  · split <;> simp
  · rfl

@[simp] theorem State.occupancyChange_elsewhere (s : State) (b : Fin 16) : (s.occupancyChange b).elsewhere = s.elsewhere := by
  unfold State.occupancyChange
  dsimp only
  split <;> simp

@[simp] theorem State.standStill_elsewhere (s : State) (t : Fin 8) : (s.standStill t).elsewhere = s.elsewhere := by
  unfold State.standStill
  dsimp only
  split
  · simp
  · split <;> simp

@[simp] theorem State.markerFires_elsewhere (s : State) (b : Fin 16) : (s.markerFires b).elsewhere = s.elsewhere := by
  unfold State.markerFires; split <;> simp

@[simp] theorem State.removeTrain_elsewhere (s : State) (t : Fin 8) : (s.removeTrain t).elsewhere = s.elsewhere := by
  simp [State.removeTrain]

@[simp] theorem State.routeMoving_elsewhere (s : State) (t : Fin 8) : (s.routeMoving t).elsewhere = s.elsewhere := by
  unfold State.routeMoving
  dsimp only
  split <;> split <;> simp

@[simp] theorem State.routeTrain_elsewhere (s : State) (t : Fin 8) (r : List (Fin 16)) (v : Nat) :
    (s.routeTrain t r v).elsewhere = s.elsewhere := by
  unfold State.routeTrain
  dsimp only
  split
  · split <;> simp
  · split
    · simp
    · split <;> simp
  · simp
  · simp
  · simp

end Sys2Proof.Machine
end

