-- ==== Sys2Proof/Tests/Slice0.lean ====
section
/-! SUPPORT. Tests. First the worked cases of the spec, each with its place; then, for every statement with hypotheses, a witness that
meets them, clause by clause. -/

open Sys2Proof Sys2Proof.Machine

namespace Sys2Proof.Tests

-- One theorem at a time: each evaluation by the kernel waits for those before it, and the waiting threads would fill the memory.
set_option Elab.async false

/-! ## States to test on -/

/-- The link with nothing received, pending or queued, and a long frame on the line. -/
def quietLink (s : State) : State :=
  { s with link := { s.link with replies := [], slots := [], notices := [], transmitter := .notice ⟨0, .noticesLost 1⟩ 900000 } }

/-- The part after a power-on reset, its READY notice sent and another frame on the line. -/
def ready : State := quietLink State.reset

/-- The state after some commands, the link quiet again after each. -/
def does : List Instr → State → State
  | [], s => s
  | c :: cs, s =>
    match exec c s with
    | .next t => does cs (quietLink t)
    | _ => s

/-- The state that a command ends in. -/
def after (c : Instr) (s : State) : State :=
  match exec c s with
  | .next t => t
  | _ => s

def refusedAsIllFormed (c : Instr) (s : State) : Bool :=
  match exec c s with
  | .refused .illFormed => true
  | _ => false

/-! ## Well-formedness -/

/-- 63 payload bytes. -/
def tooLong : List Byte := List.replicate 63 0

/-- A frame carries at most 62 payload bytes (chapter 11). -/
theorem test_wf_long_payload : (Instr.ping 0 tooLong).wf = false ∧ (Instr.ping 0 tooLong.tail).wf = true ∧
    refusedAsIllFormed (.ping 0 tooLong) ready = true := by decide +kernel

/-- UNKNOWN_KIND names no request kind (R174). -/
theorem test_wf_unknown_kind : (Instr.unknownKind 0x01 0 []).wf = false ∧ (Instr.unknownKind 0x08 0 []).wf = true ∧
    refusedAsIllFormed (.unknownKind 0x01 0 []) ready = true := by decide +kernel

/-- No row of the table gives bits, so that no word spells a command. -/
theorem test_no_word_spells_a_command : decodeTableWord 16 0x4B01 = none ∧ ready.withFetchWord 16 0x4B01 = ready := by decide +kernel

/-! ## Worked cases of the spec -/

/-- R171: the check byte of PING with tag 1 is 0xC4. -/
theorem test_crc_ping : crc8 [0x02#8, 0x01#8, 0x01#8] = 0xC4#8 := by decide +kernel

/-- Section 1.5, cases 1 to 3. -/
theorem test_daylight_reset_curve : daylight Clock.reset.curve 71130 = 621 ∧ daylight Clock.reset.curve 7200 = 0 ∧
    daylight Clock.reset.curve 22360 = 605 := by decide +kernel

/-- Section 1.5, case 4. -/
theorem test_daylight_across_midnight : daylight [⟨240, 50⟩, ⟨1320, 200⟩] 84600 = 163 ∧
    daylight [⟨240, 50⟩, ⟨1320, 200⟩] 3600 = 125 ∧ daylight [⟨240, 50⟩, ⟨1320, 200⟩] 46800 = 125 := by decide +kernel

/-- R57: the first six draws. -/
theorem test_lfsr_draws :
    [(0xACE1#16 : Lfsr), 0xE270#16, 0x7138#16, 0x389C#16, 0x1C4E#16, 0x0E27#16].map draw =
      [0xE270#16, 0x7138#16, 0x389C#16, 0x1C4E#16, 0x0E27#16, 0xB313#16] := by decide

/-- Section 3.3: a fade overtaken, and the fade from 800 to 100. -/
theorem test_fade_overtaken : ((Fade.mk 0 0 0 0).begin 1000 50).after 3 = ⟨0, 1000, 5, 3⟩ ∧
    ((((Fade.mk 0 0 0 0).begin 1000 50).after 3).begin 0 30).start = 600 ∧
    (List.range 4).map (fun n => (((((Fade.mk 0 0 0 0).begin 1000 50).after 3).begin 0 30).after n).output) = [600, 400, 200, 0] ∧
    (List.range 4).map (fun n => (((Fade.mk 800 800 0 0).begin 100 30).after n).output) = [800, 567, 334, 100] := by decide +kernel

/-- Section 3.6: the daylight channel 70 in its group, and channel 12 during a group fade: base level, scaled and composed level,
byte. -/
theorem test_composition :
    (shape .square ((303 * 750) / 1000) = 51 ∧ chainByte 51 = 13 ∧ chainByte 1000 = 255) ∧
      (List.range 5).map (fun n => (((Fade.mk 1000 1000 0 0).begin 250 40).after n).output) = [1000, 813, 625, 438, 250] := by
  decide +kernel

/-- R109: the duties that kicks and steps give. -/
theorem test_block_duties : dutyOf 150 1 = 156 ∧ dutyOf 150 64 = 578 ∧ dutyOf 0 64 = 503 ∧ dutyOf 500 1 = 503 := by decide

/-- Section 7.2: accel 30 toward 40, in intervals 6 and 67, and decel 200 back to 0 in 10 intervals. -/
theorem test_accel_30 :
    let x := (List.range 6).foldl (fun (x : Train) _ => x.rampTo 40) { Train.reset with accel := 30, decel := 200 }
    let y := (List.range 61).foldl (fun (x : Train) _ => x.rampTo 40) x
    let z := (List.range 10).foldl (fun (x : Train) _ => x.rampTo 0) y
    (x.step, x.ramp) = (3, 30) ∧ (y.step, y.ramp) = (40, 0) ∧ z.step = 0 := by decide +kernel

/-- Section 5.2: the measured speeds of a carousel with ppr 24 and unit 16 us. -/
theorem test_capture_speeds :
    ([[26050], [26050, 26030], [26050, 26030, 26040, 26040]].map fun h =>
      { rotaryAfresh 24 .us16 900 10 30 500 1000 20 .home with history := h }.measured) = [59, 60, 60] := by decide +kernel

/-- Section 5.3: the three intervals of a dragging motor, and the drive that stops on a ramp. -/
theorem test_dragging_motor :
    loopOutput 40 4 900 300 14000 = (14000, 900) ∧ loopOutput 40 4 900 40 14000 = (14000, 900) ∧
      loopOutput 40 4 900 (-20) 14000 = (13980, 861) ∧ loopOutput 40 4 900 (-150) 200 = (200, 0) := by decide +kernel

/-! ## Worked sequences of the spec -/

/-- A clock at a time with a rate, RUNNING. -/
def runningAt (time rate : Nat) (mode : SyncMode) : State :=
  { ready with
    clock :=
      { ready.clock with
        state := .running, time := time, scan := time, rate := rate, mode := mode
        sync := if mode = .follower then .seeking else .idle } }

/-- Section 1.7: the edge at 14:07:52.0 goes on to 14:08:00.0 with SYNC_LOCKED. -/
theorem test_follower_snaps_forward :
    let t := after .syncEdge (runningAt 508720 60 .follower)
    t.clock.time = 508800 ∧ t.clock.scan = 508800 ∧ t.clock.sync = .locked ∧
      t.link.notices.getLast? = some ⟨50880, .clock (.syncLocked 520)⟩ := by decide +kernel

/-- Section 1.7: the edge at 14:09:06.0 goes back to 14:09:00.0 and scans nothing. -/
theorem test_follower_snaps_backward :
    let t := after .syncEdge (runningAt 509460 60 .follower)
    t.clock.time = 509400 ∧ t.clock.scan = 509460 ∧ t.clock.advance = 0 := by decide +kernel

/-- Section 1.7: a leader at rate 1440 crosses three boundaries in a step and pulses once. -/
theorem test_leader_pulses_once :
    let t := after .clockStep (runningAt 432590 1440 .leader)
    t.clock.time = 434030 ∧ t.clock.pin = .high ∧ t.clock.pulseUs = 1000 := by decide +kernel

def sayAction (code : Byte) : StoredAction := ⟨0x07#8, [code]⟩

/-- The cue list of section 2.4 at 23:59:57.0. -/
def midnight : State :=
  { runningAt 863970 60 .alone with
    cues :=
      [⟨5, 0, true, sayAction 5⟩, ⟨12, 0, false, sayAction 12⟩, ⟨9, 3, true, sayAction 9⟩, ⟨4, 4, true, sayAction 4⟩,
        ⟨7, 86397, true, sayAction 7⟩, ⟨3, 86399, true, sayAction 3⟩] }

/-- Section 2.4: a scan across midnight takes 3, 5 and 9 in this order. -/
theorem test_scan_across_midnight :
    let t := after .clockStep midnight
    t.clock.time = 30 ∧ t.clock.days = 1 ∧ t.clock.scan = 30 ∧ t.due = [] ∧
      t.dispatcher.actions = [⟨.cue 3, sayAction 3⟩, ⟨.cue 5, sayAction 5⟩, ⟨.cue 9, sayAction 9⟩] := by decide +kernel

/-- A link with this many notices queued and this lost count. -/
def queued (n lost : Nat) : State :=
  { ready with link := { ready.link with notices := List.replicate n ⟨0, .clock .holdEnd⟩, lost := lost } }

/-- Section 10.6: a burst of notices, by queue count and lost count. -/
theorem test_burst_of_notices :
    [queued 32 0, queued 32 1, queued 31 2, queued 30 1].map (fun s =>
        ((s.send (.intrusion 1)).link.notices.length, (s.send (.intrusion 1)).link.lost)) =
      [(32, 1), (32, 2), (32, 1), (32, 0)] := by decide +kernel

/-- Section 11.5: TRAIN_SPEED 200 for train 5 with tag 0x2C is answered ADJUSTED, and NO_SUCH_OBJECT while the train is FREE. -/
theorem test_train_speed_reply :
    (after (.trainSpeed 0x2C [5, 0xC8]) (ready.setTrain 5 { Train.reset with state := .stopped })).link.replies =
        [⟨0xCB#8, 0x2C#8, [9]⟩] ∧
      (after (.trainSpeed 0x2C [5, 0xC8]) ready).link.replies = [⟨0xCB#8, 0x2C#8, [4]⟩] := by decide +kernel

/-! ## Witnesses: the machine and the link -/

/-- In the ready state the dispatcher can take any frame. -/
theorem ready_takes (f : Frame) : ready.canTake f = true := rfl

def ping : Frame := ⟨0x01#8, 0x01#8, []⟩

/-- A state with a command waiting and the longest frame in a slot. -/
def waiting : State :=
  { ready with pending := [.clockStep, .unknownKind 0xFF 1 tooLong.tail], link := { ready.link with slots := [⟨1, 1, tooLong.tail⟩] } }

theorem witness_WellFormedStepsNeverStop : (∀ c ∈ waiting.pending, c.wf = true) ∧ waiting.SlotsSound := by
  unfold State.SlotsSound; decide +kernel

theorem witness_EveryTakenFrameIsAnswered : tooLong.tail.length ≤ 62 ∧ ready.canTake ⟨0x1A#8, 3, tooLong.tail⟩ = true := by
  decide +kernel

/-- A state with both reply slots pending. -/
def repliesFull : State := { ready with link := { ready.link with replies := [ping, ping] } }

theorem witness_UntakenFrameWaitsInASlot : tooLong.tail.length ≤ 62 ∧ repliesFull.canTake ⟨0x1A#8, 3, tooLong.tail⟩ = false := by
  decide +kernel

theorem witness_FrameKindsRoundTrip : ((Instr.ping 7 []).wf = true ∧ frameOf (.ping 7 []) = some (0x01#8, 7, [])) ∧
    (Instr.unknownKind 0xFF 7 []).wf = true ∧ frameOf (.unknownKind 0xFF 7 []) = some (0xFF#8, 7, []) := by decide +kernel

/-- A scene with a layout, a train with a granted route over a crossing, a barrier, an input, a cue, a chain and a stored action. -/
def scene : State :=
  does
    [.driveConfig 0 [2, 2, 2, 88, 3, 232], .driveConfig 0 [0, 1, 24, 1, 3, 132, 10, 0, 30, 1, 144, 4, 0, 20, 1],
      .blockConfig 0 [0, 30, 50, 24, 0, 30], .blockConfig 0 [1, 30, 50, 24, 0, 30], .blockConfig 0 [2, 30, 50, 24, 0, 30],
      .pathAdd 0 [0, 1, 0, 1, 0, 2], .pathAdd 0 [1, 2, 0, 0], .crossingConfig 0 [0, 1, 2, 11, 184],
      .trainPlace 0 [0, 0, 0, 30, 60, 0, 150], .trainRoute 0 [2, 60, 1, 2], .inputConfig 0 [3, 1, 10, 0, 0],
      .cueAdd 0 [9, 0, 0, 3, 1, 7, 1, 4], .lightConfig 0 [5, 1, 0, 1, 1], .lightSet 0 [5, 3, 232, 3, 232],
      .chainConfig 0 [1, 1, 0, 0, 20, 1, 4], .clockRun 0 []] ready

/-- The scene with a clock step waiting. -/
def sceneStep : State := { scene with pending := [.clockStep] }

theorem scene_steps : ∃ t, step sceneStep = .next t := ⟨_, rfl⟩

theorem witness_StepsKeepLinkSound : (sceneStep.LinkSound ∧ sceneStep.SlotsSound ∧ sceneStep.link.assembler.Sound) ∧
    ∃ t, step sceneStep = .next t :=
  ⟨⟨by unfold State.LinkSound; decide +kernel, by unfold State.SlotsSound; decide +kernel, show True from trivial⟩, scene_steps⟩

theorem witness_StepsKeepClockSound : sceneStep.ClockSound ∧ ∃ t, step sceneStep = .next t :=
  ⟨by unfold State.ClockSound; decide +kernel, scene_steps⟩

theorem witness_StepsKeepCuesSound : sceneStep.CuesSound ∧ ∃ t, step sceneStep = .next t :=
  ⟨by unfold State.CuesSound; decide +kernel, scene_steps⟩

theorem witness_StepsKeepStoresSound : sceneStep.StoresSound ∧ ∃ t, step sceneStep = .next t :=
  ⟨by unfold State.StoresSound; decide +kernel, scene_steps⟩

/-- A carousel that runs. -/
def spin : Rotary := { rotaryAfresh 24 .us16 900 10 30 500 1000 20 .home with state := .running, target := 100 }

/-- A barrier's drive on its way up. -/
def sweep : Traverse := ⟨600, 5000, .movingOpen, true, 5000⟩

def withDrive (k : DriveKind) : State := ready.setDrive 0 { Drive.reset with kind := k }

/-- A carousel at its greatest duty and a barrier at its travel duty, with a control interval waiting. -/
def drivesAtLimit : State :=
  { ready with
    pending := [.driveControlInterval]
    drives := #v[⟨.rotary spin, 40, 4, 900, .low, none⟩, ⟨.traverse sweep, 40, 4, 600, .high, none⟩, Drive.reset, Drive.reset] }

theorem witness_StepsKeepDrivesSound : drivesAtLimit.DrivesSound ∧ ∃ t, step drivesAtLimit = .next t := by
  refine ⟨fun d => ?_, _, rfl⟩
  match d with
  | 0 => exact ⟨show _ ∧ _ by decide, by decide⟩
  | 1 => exact ⟨show _ ∧ _ by decide, by decide⟩
  | 2 | 3 => exact ⟨show _ = _ from rfl, by decide⟩

theorem witness_StepsKeepTrackSound : sceneStep.TrackSound ∧ ∃ t, step sceneStep = .next t :=
  ⟨by unfold State.TrackSound State.TrainSound; decide +kernel, scene_steps⟩

theorem witness_StepsKeepServiceSound : sceneStep.ServiceSound ∧ ∃ t, step sceneStep = .next t :=
  ⟨by unfold State.ServiceSound; decide +kernel, scene_steps⟩

theorem channel_reset_sound (n : Nat) : Channel.reset.Sound n := by
  unfold Channel.Sound Fade.Sound
  exact ⟨by decide, trivial, by decide, by decide, by decide, by split <;> decide⟩

/-- The ready state with a lighting frame waiting. -/
def frameWaiting : State := { ready with pending := [.lightingFrame false] }

theorem witness_StepsKeepLightsSound : frameWaiting.LightsSound ∧ ∃ t, step frameWaiting = .next t := by
  refine ⟨⟨fun c => ?_, ?_, by decide, by decide⟩, _, rfl⟩
  · have h : frameWaiting.lighting.channels[c] = Channel.reset := by
      show (Vector.replicate 128 Channel.reset)[c] = Channel.reset
      simp
    rw [h]
    exact channel_reset_sound _
  · unfold Fade.Sound
    decide +kernel

/-- A chain of 12 modules in its first byte, a CHAIN_CONFIG waiting for the byte's end. -/
def chainBusy : State :=
  after (.chainConfig 7 [0, 1, 0, 0, 20, 0, 4]) (after (.lightingFrame false) (does [.chainConfig 0 [12, 1, 0, 0, 20, 1, 4]] ready))

def chainStep : State := { chainBusy with pending := [.chainByteDone 0 false] }

theorem chain_not_latching (n : Nat) : chainStep.chain.wire = .latching n → chainStep.chain.pointer = 0 := by
  have h : chainStep.chain.wire = .shifting 32 := by decide +kernel
  intro w
  rw [h] at w
  cases w

theorem chain_not_waiting (n : Nat) :
    chainStep.chain.wire = .busyWait n → chainStep.chain.busyPin = true ∧ chainStep.chain.settings.handshake = true := by
  have h : chainStep.chain.wire = .shifting 32 := by decide +kernel
  intro w
  rw [h] at w
  cases w

theorem chain_steps : ∃ t, step chainStep = .next t := ⟨_, rfl⟩

theorem witness_StepsKeepChainSound : chainStep.ChainSound ∧ ∃ t, step chainStep = .next t := by
  refine ⟨?_, chain_steps⟩
  unfold State.ChainSound
  exact ⟨by decide +kernel, by decide +kernel, by decide +kernel, by decide +kernel, by decide +kernel, by decide +kernel,
    by decide +kernel, chain_not_latching, chain_not_waiting, by decide +kernel, by decide +kernel, by decide +kernel, by decide +kernel,
    by decide +kernel⟩

/-- A drive is TRAVERSE. -/
def isTraverse (k : DriveKind) : Bool := match k with | .traverse _ => true | _ => false

/-- The laws of barriers, a bound drive's settings read off its kind. -/
abbrev BarrierLaws (s : State) : Prop :=
  (∀ c : Fin 2, ∀ d : Fin 4, s.crossings[c].barrier = some d ↔ s.drives[d].bound = some c) ∧
    (∀ d : Fin 4, s.drives[d].bound ≠ none → isTraverse s.drives[d].kind = true) ∧
    (∀ c : Fin 2, s.crossings[c].barrier ≠ none → s.crossings[c].block ≠ none) ∧
    (∀ c : Fin 2, s.crossings[c].timerRunning = true ↔ s.crossings[c].state = some .warning) ∧
    ∀ c : Fin 2, s.crossings[c].barrier = none → s.crossings[c].state ≠ some .closing ∧ s.crossings[c].state ≠ some .opening

theorem barriers_sound_of (s : State) (h : BarrierLaws s) : s.BarriersSound := by
  refine ⟨h.1, fun d hd => ?_, h.2.2⟩
  have := h.2.1 d hd
  unfold isTraverse at this
  split at this
  · exact ⟨_, ‹_›⟩
  · cases this

theorem scene_bound (d : Fin 4) : sceneStep.drives[d].bound ≠ none → ∃ t, sceneStep.drives[d].kind = .traverse t := by
  match d with
  | 0 => exact fun h => absurd (by decide +kernel : sceneStep.drives[(0 : Fin 4)].bound = none) h
  | 1 => exact fun h => absurd (by decide +kernel : sceneStep.drives[(1 : Fin 4)].bound = none) h
  | 2 => exact fun _ => ⟨_, rfl⟩
  | 3 => exact fun h => absurd (by decide +kernel : sceneStep.drives[(3 : Fin 4)].bound = none) h

theorem witness_StepsKeepCrossingsSound : (sceneStep.CrossingsSound ∧ sceneStep.BarriersSound) ∧ ∃ t, step sceneStep = .next t := by
  refine ⟨⟨?_, ?_⟩, scene_steps⟩
  · unfold State.CrossingsSound
    decide +kernel
  · unfold State.BarriersSound
    refine ⟨?_, scene_bound, ?_⟩ <;> decide +kernel

/-! ## Witnesses: the link -/

/-- The dispatcher can take a request of this kind with tag 7 and this payload. -/
abbrev Takes (s : State) (kind : Byte) (payload : List Byte) : Prop := s.canTake ⟨kind, 7, payload⟩ = true

def withSlots (slots : List Frame) : State := { ready with link := { ready.link with slots := slots } }

theorem witness_ReceivedFramesReachASlot : tooLong.tail.length ≤ 62 ∧ (0 : Byte) ≠ crc8 ping.body ∧
    ((withSlots [ping]).link.assembler = .hunt ∧ (withSlots [ping]).link.slots.length < 2) ∧
    (withSlots [ping, ping]).link.assembler = .hunt ∧ 2 ≤ (withSlots [ping, ping]).link.slots.length := by decide +kernel

def assembling (a : Assembler) : State := { ready with link := { ready.link with assembler := a, gap := some 5000 } }

theorem witness_CharactersMoveTheAssembler : (ready.link.assembler = .hunt ∧ ready.link.slots.length < 2 ∧ (0 : Byte) ≠ 0xA5#8) ∧
    (2 ≤ (2#8).toNat ∧ (64#8).toNat ≤ 64 ∧ (1#8).toNat < 2 ∧ 64 < (65#8).toNat) ∧
    (assembling .length).link.assembler = .length ∧ (assembling (.body [2] 1)).link.assembler = .body [2] 1 ∧
    (assembling (.check [2, 1, 1])).link.assembler = .check [2, 1, 1] ∧
    (assembling .discardLength).link.assembler = .discardLength ∧
    (assembling (.discardBody 1)).link.assembler = .discardBody 1 := by decide +kernel

def sendingReply : State := { ready with link := { ready.link with transmitter := .reply 10, replies := [ping, ping] } }

theorem witness_TransmitterChoosesRepliesFirst :
    (sendingReply.link.transmitter = .reply 10 ∧ sendingReply.link.replies.tail = [ping]) ∧
    ((queued 1 0).link.transmitter = .notice ⟨0, .noticesLost 1⟩ 900000 ∧ (queued 1 0).link.replies = [] ∧
      (queued 1 0).link.notices = [⟨0, .clock .holdEnd⟩]) ∧
    ready.link.transmitter = .notice ⟨0, .noticesLost 1⟩ 900000 ∧ ready.link.replies = [] ∧ ready.link.notices = [] := by
  decide +kernel

def masked : State := { ready with link := { ready.link with mask := 0 } }

theorem witness_NoticesAreOfferedByTheirRule : let n := Notice.intrusion 1
    (masked.link.transmitter ≠ .idle ∧ n.enabled masked.link.mask = false) ∧
    ((queued 32 255).link.transmitter ≠ .idle ∧ n.enabled (queued 32 255).link.mask = true ∧
      32 ≤ (queued 32 255).link.notices.length) ∧
    ((queued 31 0).link.notices.length < 32 ∧ (queued 31 0).link.lost = 0 ∧ n.enabled (queued 31 0).link.mask = true) ∧
    ((queued 30 1).link.notices.length < 31 ∧ 0 < (queued 30 1).link.lost ∧ n.enabled (queued 30 1).link.mask = true) ∧
    (queued 31 1).link.notices.length = 31 ∧ 0 < (queued 31 1).link.lost ∧ n.enabled (queued 31 1).link.mask = true := by
  decide +kernel

theorem witness_RepliesCarryKindTagAndResult : (Result.adjusted = .ok ∨ Result.adjusted = .adjusted) ∧
    Result.badArgument ≠ .ok ∧ Result.badArgument ≠ .adjusted := by decide

theorem witness_GeneralRequestsAreAnswered : Takes ready 0x01 [] ∧ Takes ready 0x02 (outFlag false) ∧ Takes ready 0x02 (outFlag true) ∧
    Takes ready 0x04 [0] ∧ Takes ready 0x07 [255] ∧ isRequestKind 0x08 = false ∧ tooLong.tail.length ≤ 62 ∧
    Takes ready 0x08 tooLong.tail := by decide +kernel

/-! ## Witnesses: the scene clock -/

/-- A clock that is held with this long left on the hold timer. -/
def holding (ms : Nat) : State :=
  { ready with clock := { ready.clock with state := .held, holdRunning := true, holdMs := ms } }

/-- A state in service on request. -/
def inService (s : State) : State := { s with service := ⟨.service, .request, 0, false, 0⟩ }

theorem witness_ClockRequestsSetTheClock : (Takes ready 0x11 [] ∧ ready.clock.state ≠ .running) ∧
    (Takes (runningAt 0 60 .alone) 0x11 [] ∧ (runningAt 0 60 .alone).clock.state = .running) ∧
    Takes (holding 100) 0x13 [] ∧
    (Takes (holding 100) 0x12 [0x0E, 0x11] ∧ (holding 100).clock.state ≠ .stopped ∧ 3600 < be2 0x0E 0x11) ∧
    (Takes ready 0x12 [0, 0] ∧ ready.clock.state = .stopped) ∧ (inService ready).service.state ≠ .normal ∧
    ((holding 100).service.state = .normal ∧ (holding 100).clock.state = .held ∧ (holding 100).clock.holdRunning = true ∧
      (holding 100).clock.holdMs ≤ 100 ∧ (holding 100).Listening) ∧
    (Takes ready 0x10 [0x01, 0x51, 0x7F, 0x05, 0xA1] ∧ be3 0x01 0x51 0x7F ≤ 86399 ∧ 1440 < be2 0x05 0xA1) ∧
    Takes ready 0x10 [0x01, 0x51, 0x80, 0, 60] ∧ 86399 < be3 0x01 0x51 0x80 := by
  unfold State.Listening
  decide +kernel

/-- Sixteen curve points at 23:59, the last with a level above 1000. -/
def latePoints : List (Byte × Byte × Byte) := List.replicate 15 (0x59, 0xF3, 0xE8) ++ [(0x59, 0xFF, 0xFF)]

theorem witness_CurveLoadReplacesTheCurve : latePoints.length ≤ 16 ∧
    (∀ v ∈ latePoints.map (fun p => be3 p.1 p.2.1 p.2.2), v / 4096 ≤ 1439) ∧
    Takes ready 0x14 (byte1 latePoints.length :: latePoints.flatMap (fun p => [p.1, p.2.1, p.2.2])) := by decide +kernel

def threePoints : List CurvePoint := [⟨0, 1000⟩, ⟨720, 100⟩, ⟨1439, 0⟩]

theorem witness_DaylightFollowsTheCurve : threePoints.Pairwise (fun p q => p.minute < q.minute) ∧
    (∀ p ∈ threePoints, p.minute ≤ 1439 ∧ 0 ≤ p.level ∧ p.level ≤ 1000) ∧ threePoints ≠ [] ∧
    ([] ++ ⟨0, 1000⟩ :: ⟨720, 100⟩ :: [⟨1439, 0⟩] = threePoints ∧ 0 * 60 ≤ 43199 ∧ 43199 < 720 * 60) ∧
    (⟨0, 1000⟩ :: ([⟨720, 100⟩] ++ [⟨1439, 0⟩]) = threePoints ∧ 1439 * 60 ≤ 86399 ∧ 86399 < 86400) ∧
    ([⟨240, 50⟩, ⟨1320, 200⟩] : List CurvePoint).Pairwise (fun p q => p.minute < q.minute) ∧ 14399 < 240 * 60 := by
  decide +kernel

theorem witness_PhaseIsSetPlainlyOrWithHysteresis : Takes ready 0x17 [0x03, 0xE9, 201] ∧
    (ready.Listening ∧ (after .clockStep ready).clock.phase = ready.clock.phase) ∧
    (runningAt 432000 60 .alone).Listening ∧
      (after .clockStep (runningAt 432000 60 .alone)).clock.phase ≠ (runningAt 432000 60 .alone).clock.phase := by
  unfold State.Listening
  decide +kernel

/-- A leader with a pulse in progress. -/
def pulsing : State := after (.clockMark 0 []) (runningAt 0 60 .leader)

/-- A leader between pulses. -/
def leading : State := does [.syncMode 0 [1]] ready

theorem witness_SyncModeAndPulses : Takes ready 0x15 [byte1 SyncMode.follower.code] ∧ (Takes ready 0x15 [3] ∧ 2 < (3#8).toNat) ∧
    (Takes leading 0x16 [] ∧ leading.clock.mode = .leader ∧ leading.clock.pin ≠ .high) ∧
    (Takes (quietLink pulsing) 0x16 [] ∧ (quietLink pulsing).clock.mode = .leader ∧ (quietLink pulsing).clock.pin = .high) ∧
    Takes ready 0x16 [] ∧ ready.clock.mode ≠ .leader ∧ ready.clock.pin ≠ .high := by decide +kernel

theorem witness_ClockStepWorksItsStages : let s := runningAt 863940 60 .follower
    (s.service.state = .normal ∧ s.clock.state = .running ∧ s.clock.mode = .follower ∧ s.clock.sync = .seeking ∧ s.Listening) ∧
    ((holding 100).service.state = .normal ∧ (holding 100).clock.state = .held ∧ (holding 100).clock.holdRunning = true ∧
      (holding 100).clock.holdMs ≤ 100 ∧ (holding 100).Listening) ∧
    ((holding 101).service.state = .normal ∧ (holding 101).clock.state = .held ∧ (holding 101).clock.holdRunning = true ∧
      100 < (holding 101).clock.holdMs) ∧
    (inService s).service.state ≠ .normal ∧ ready.clock.state = .stopped ∧
    (does [.clockHold 0 [0, 0]] s).clock.state = .held ∧ (does [.clockHold 0 [0, 0]] s).clock.holdRunning = false := by
  unfold State.Listening
  decide +kernel

theorem witness_SyncEdgeSnapsToTheMinute :
    (∀ time ∈ [600, 899, 900, 863699, 863700, 863999], let s := runningAt time 60 .follower
      s.clock.mode = .follower ∧ s.clock.state = .running ∧ s.service.state = .normal ∧ s.clock.time < 864000 ∧ s.Listening ∧
        s.clock.sync = .seeking) ∧
    ((after .syncEdge (runningAt 510000 60 .follower)).clock.phase ≠ (runningAt 510000 60 .follower).clock.phase) ∧
    ready.clock.mode ≠ .follower ∧ ready.clock.state ≠ .running ∧ (inService ready).service.state ≠ .normal := by
  unfold State.Listening
  decide +kernel

/-! ## Witnesses: queries, cues and stored actions -/

theorem witness_QueriesReportAndChangeNothing : scene.StoresSound ∧ (∀ b : Fin 16, scene.blocks[b].waiting.length ≤ 8) ∧
    Takes scene 0x18 [255] ∧ (Takes scene 0x1D [0] ∧ scene.cues[0]? = some ⟨9, 3, true, ⟨0x07, [4]⟩⟩) ∧
    Takes scene 0x23 [0, 127] ∧ Takes scene 0x23 [1, 15] ∧ Takes scene 0x25 (outFlag true) ∧ Takes scene 0x35 [3] ∧
    Takes scene 0x45 [15] ∧ Takes scene 0x46 [7] ∧ Takes scene 0x4D [7] ∧ Takes scene 0x52 [1] ∧ Takes scene 0x5A [15] := by
  unfold State.StoresSound
  decide +kernel

/-- A cue list of this many cues at midnight. -/
def withCues (n : Nat) : State :=
  { ready with cues := (List.range n).map fun id => ⟨id, 0, true, sayAction 1⟩, due := if n = 0 then [] else [0] }

theorem witness_CueAddKeepsTheOrder : let frame := [63, 0x01, 0x51, 0x7F] ++ outFlag true ++ [0x07, 1] ++ [4]
    ((withCues 64).CuesSound ∧ (withCues 63).CuesSound) ∧ be3 0x01 0x51 0x7F ≤ 86399 ∧ storable 0x07 [4] = true ∧
    (withCues 63).cues.length < 64 ∧ Takes (withCues 63) 0x1A frame ∧
    (⟨63, 0, true, sayAction 1⟩ ∈ (withCues 64).cues ∧ Takes (withCues 64) 0x1A frame) ∧
    64 ≤ (withCues 64).cues.length ∧ (∀ c ∈ (withCues 64).cues, c.id ≠ (64#8).toNat) ∧
    Takes (withCues 64) 0x1A ([64, 0, 0, 0] ++ outFlag false ++ [0x07, 1] ++ [4]) := by
  unfold State.CuesSound
  decide +kernel

theorem witness_CuesAreRemovedAndEnabled : let s := withCues 1
    ⟨0, 0, true, sayAction 1⟩ ∈ s.cues ∧ Takes s 0x1B [0, 0] ∧ (Takes s 0x1B [0, 1] ∧ ∀ c ∈ s.cues, c.id ≠ (1#8).toNat) ∧
    Takes s 0x1B [1, 9] ∧ (Takes s 0x1B [2, 0] ∧ 1 < (2#8).toNat) ∧ Takes s 0x1C (0 :: outFlag false) := by decide +kernel

/-- The cue list of section 2.4 with the model time half a day after the scan position. -/
def halfDay : State :=
  { midnight with clock := { midnight.clock with time := 431970 } }

theorem witness_ScanAndDrainFollowTheDay :
    (halfDay.CuesSound ∧ (∀ c ∈ halfDay.cues, c.time ≤ 86399) ∧ halfDay.clock.scan < 864000 ∧ halfDay.clock.time < 864000 ∧
      (halfDay.clock.time + 864000 - halfDay.clock.scan) % 864000 = 432000) ∧
    (midnight.clock.time + 864000 - midnight.clock.scan) % 864000 = 0 ∧
    ((withCues 9).CuesSound ∧ (withCues 9).service.state = .normal ∧ (withCues 9).dispatcher.actions.length ≤ 8) ∧
    (inService ready).service.state ≠ .normal := by
  unfold State.CuesSound
  decide +kernel

/-- A stored LIGHT_SET of a channel at the head of the action queue. -/
def stored (c : Fin 128) : State :=
  { ready with
    dispatcher := ⟨[⟨.cue 1, ⟨0x21, [byte1 c, 0xFF, 0xFF, 0xFF, 0xFF]⟩⟩], none⟩
    lighting := { ready.lighting with channels := ready.lighting.channels.set 127 { Channel.reset with role := .fixed } } }

/-- A stored SAY at the head of a full action queue. -/
def sayStored : State := { ready with dispatcher := ⟨⟨.input 15, sayAction 255⟩ :: List.replicate 15 ⟨.cue 1, sayAction 4⟩, none⟩ }

theorem witness_StoredActionsArePerformedWithoutReply :
    ((stored 127).link.transmitter ≠ .idle ∧ (stored 127).link.slots = [] ∧ (stored 127).link.replies.length < 2 ∧
      (0x21 : Byte) ≠ 0x07#8) ∧
    (sayStored.dispatcher.actions = ⟨.input 15, ⟨0x07#8, [255]⟩⟩ :: List.replicate 15 ⟨.cue 1, sayAction 4⟩ ∧ sayStored.dispatcher.busy = none ∧
      sayStored.service.state = .normal) ∧
    ((stored 127).dispatcher.actions = ⟨.cue 1, ⟨0x21, [byte1 127, 0xFF, 0xFF, 0xFF, 0xFF]⟩⟩ :: [] ∧
      (stored 127).dispatcher.busy = none ∧ (stored 127).service.state = .normal ∧
      storable 0x21 [byte1 127, 0xFF, 0xFF, 0xFF, 0xFF] = true ∧ (stored 127).lighting.channels[(127 : Fin 128)].role = .fixed) ∧
    (stored 0).lighting.channels[(0 : Fin 128)].role ≠ .fixed ∧ (inService ready).service.state ≠ .normal := by decide +kernel

/-! ## Witnesses: light channels and the lamp chain -/

/-- Channel 127 in this condition. -/
def lit (x : Channel) : State :=
  { ready with lighting := { ready.lighting with channels := ready.lighting.channels.set 127 x } }

theorem witness_LightRequestsStartRolesAndFades : let role := Role.night 1000 .thresholds 1000 1000 60 65535
    let frame := [byte1 127, byte1 role.code] ++ outObject (some (15 : Fin 16)) ++ [byte1 Response.square.code] ++ outFlag true ++
      role.params
    (role.InRange ∧ Takes ready 0x20 frame) ∧
    (Takes (lit { Channel.reset with role := .fixed }) 0x21 [127, 0x03, 0xE9, 255, 255] ∧
      (lit { Channel.reset with role := .fixed }).lighting.channels[(127 : Fin 128)].role = .fixed) ∧
    (Takes ready 0x21 [0, 0, 0, 0, 0] ∧ ready.lighting.channels[(0 : Fin 128)].role ≠ .fixed) ∧
    Takes ready 0x22 [byte1 15, 0x03, 0xE9, 255, 255] :=
  ⟨⟨show _ ∧ _ by decide, by decide +kernel⟩, by decide +kernel, by decide +kernel, by decide +kernel⟩

theorem witness_FadesReachTheirEnds : (Fade.mk 1000 0 6553 6553).Sound ∧ 1000 ≤ 1000 ∧ 65535 ≤ 65535 ∧ 6552 < 65535 / 10 ∧
    65535 / 10 ≤ 6553 ∧ 9 / 10 ≤ 0 := by
  unfold Fade.Sound
  decide

/-- A channel with a FLICKER role at this position. -/
def flickering (position : Nat) : State := lit { Channel.reset with role := .flicker 1000 1000 255, position := position }

/-- A NIGHT channel in this switching state with this count, in this phase. -/
def nightly (phase : Phase) (w : Switching) (n : Nat) : State :=
  { lit { Channel.reset with role := .night 1000 .followPhase 0 0 60 65535, switching := w, remaining := n } with
    clock := { ready.clock with phase := phase } }

/-- A NIGHT channel in THRESHOLDS mode, below 300 and above 400, in this switching state with this count, at this daylight level. -/
def dusky (level : Nat) (w : Switching) (n : Nat) : State :=
  { lit { Channel.reset with role := .night 1000 .thresholds 300 400 0 65535, switching := w, remaining := n } with
    clock := { ready.clock with level := level } }

theorem witness_LightingFrameComposesEveryChannel : ready.lighting.flash ≤ 99 ∧
    (∀ w ∈ [(Phase.night, Switching.off), (.day, .on)], let s := nightly w.1 w.2 0
      s.lighting.channels[(127 : Fin 128)].role = .night 1000 .followPhase 0 0 60 65535 ∧
        s.lighting.channels[(127 : Fin 128)].draws s.clock = true ∧ (draw (s.lfsrAt 127)).toNat % (60 * 100 + 1) ≠ 0) ∧
    (∀ w ∈ [(299, Switching.off), (401, .on)], let s := dusky w.1 w.2 0
      s.lighting.channels[(127 : Fin 128)].role = .night 1000 .thresholds 300 400 0 65535 ∧
        s.lighting.channels[(127 : Fin 128)].draws s.clock = true ∧ (draw (s.lfsrAt 127)).toNat % (0 * 100 + 1) = 0) ∧
    (flickering 254).lighting.channels[(127 : Fin 128)].role = .flicker 1000 1000 255 ∧
    (flickering 254).lighting.channels[(127 : Fin 128)].position ≠ 0 ∧
    (flickering 0).lighting.channels[(127 : Fin 128)].role = .flicker 1000 1000 255 ∧
    (flickering 0).lighting.channels[(127 : Fin 128)].position = 0 := by decide +kernel

/-- A channel and a group in the first frame of their fades. -/
def fading : State :=
  { lit { Channel.reset with role := .fixed, fade := ⟨0, 1000, 6553, 0⟩ } with
    lighting :=
      { (lit { Channel.reset with role := .fixed, fade := ⟨0, 1000, 6553, 0⟩ }).lighting with
        groups := ready.lighting.groups.set 15 ⟨1000, 0, 1, 0⟩ } }

theorem witness_NightChannelsSwitchAfterTheirStagger :
    (∀ w ∈ [(299, Switching.off, 0), (299, .pendingOn, 2), (299, .pendingOn, 1), (300, .pendingOn, 6000), (300, .off, 0),
        (400, .on, 0), (400, .pendingOff, 1), (401, .pendingOff, 1), (401, .pendingOff, 2), (401, .on, 0)],
      let s := dusky w.1 w.2.1 w.2.2
      s.lighting.channels[(127 : Fin 128)].role = .night 1000 .thresholds 300 400 0 65535 ∧
        s.clock.nightOn .thresholds 300 = decide (w.1 < 300) ∧ s.clock.nightOff .thresholds 400 = decide (400 < w.1) ∧
        s.lighting.channels[(127 : Fin 128)].switching = w.2.1 ∧ s.lighting.channels[(127 : Fin 128)].remaining = w.2.2) ∧
    (∀ w ∈ [(Phase.night, Switching.off, 0), (.night, .pendingOn, 2), (.night, .pendingOn, 1), (.day, .pendingOn, 6000),
        (.day, .on, 0), (.day, .pendingOff, 1)], let s := nightly w.1 w.2.1 w.2.2
      s.lighting.channels[(127 : Fin 128)].role = .night 1000 .followPhase 0 0 60 65535 ∧ s.clock.phase = w.1 ∧
        s.lighting.channels[(127 : Fin 128)].switching = w.2.1 ∧ s.lighting.channels[(127 : Fin 128)].remaining = w.2.2) ∧
    fading.lighting.channels[(127 : Fin 128)].fade.elapsed < fading.lighting.channels[(127 : Fin 128)].fade.total ∧
    fading.lighting.channels[(127 : Fin 128)].role = .fixed ∧
    fading.lighting.groups[(15 : Fin 16)].elapsed < fading.lighting.groups[(15 : Fin 16)].total := by decide +kernel

/-- A chain with these settings, on this wire and in this state. -/
def chained (x : ChainSettings) (wire : Wire) (st : ChainState) : State :=
  { ready with chain := { Chain.reset with settings := x, wire := wire, state := st } }

def twelve : ChainSettings := ⟨12, .khz125, 31, true, 255, true, 255⟩

theorem witness_ChainConfigAppliesAtAByteBoundary : twelve.InRange ∧
    (Takes ready 0x24 twelve.bytes ∧ ready.chain.shiftingByte = false) ∧
    (Takes (chained twelve (.shifting 64) .sending) 0x24 twelve.bytes ∧
      (chained twelve (.shifting 64) .sending).chain.shiftingByte = true) ∧
    (chainBusy.chain.shiftingByte = true ∧ chainBusy.dispatcher.busy = some ⟨7, ⟨0, .khz250, 0, false, 20, false, 4⟩, false⟩) ∧
    Takes ready 0x24 [1, 1, 32, 0, 0, 0, 0] := by
  unfold ChainSettings.InRange
  decide +kernel

theorem witness_ChainMovesFromByteToByte :
    ((chained twelve (.shifting 1) .sending).chain.shiftingByte = true ∧
      (chained twelve (.shifting 1) .sending).dispatcher.busy = none ∧ (chained twelve (.shifting 1) .sending).chain.pointer = 0) ∧
    (chained twelve (.interval 1) .sending).chain.wire = .interval 1 ∧
    ((chained { twelve with handshake := false } (.interval 1) .sending).chain.wire = .interval 1 ∧
      (chained { twelve with handshake := false } (.interval 1) .sending).chain.settings.handshake = false) ∧
    (chained twelve (.busyWait 1) .sending).chain.wire = .busyWait 1 ∧
    (∀ st ∈ [ChainState.off, .sending, .fault], (chained twelve (.busyWait 1) st).chain.state ≠ .idle) ∧
    ∀ n, (chained twelve .quiet .fault).chain.wire ≠ .busyWait n := by
  refine ⟨?_, ?_, ?_, ?_, ?_, fun n => nofun⟩ <;> decide +kernel

/-- A retry whose last pulse is on the wire, with this many mismatches against a valid previous snapshot. -/
def latching (mismatch : Nat) : State :=
  { ready with
    chain :=
      { Chain.reset with
        settings := ⟨1, .khz250, 0, false, 20, true, 4⟩, wire := .latching 1, state := .fault, cause := .loopError, retrying := true
        previous := List.replicate 8 0, snapshot := List.replicate 8 1, previousValid := true, mismatch := mismatch } }

/-- A chain in FAULT whose retry timer runs out. -/
def retryDue : State :=
  { ready with
    chain :=
      { Chain.reset with settings := twelve, state := .fault, cause := .stuckBusy, retryRunning := true, retryUs := 1 } }

theorem witness_ChainFaultsAndRetries :
    ((chained twelve (.busyWait 1) .sending).chain.wire = .busyWait 1 ∧ (chained twelve (.busyWait 1) .sending).chain.state = .sending) ∧
    ((chained twelve (.busyWait 1) .fault).chain.wire = .busyWait 1 ∧ (chained twelve (.busyWait 1) .fault).chain.state = .fault) ∧
    (retryDue.chain.state = .fault ∧ retryDue.chain.retryRunning = true) ∧
    ((latching 3).chain.wire = .latching 1 ∧ (latching 3).chain.state = .fault ∧
      (latching 3).chain.mismatch < (latching 3).chain.settings.threshold) ∧
    (latching 4).chain.wire = .latching 1 ∧ (latching 4).chain.state = .fault ∧ (latching 4).chain.settings.loopCheck = true ∧
    (latching 4).chain.previousValid = true ∧ (latching 4).chain.settings.threshold ≤ (latching 4).chain.mismatch := by
  decide +kernel

theorem witness_TransfersSendTheSnapshotWhole : let s := chained ⟨12, .khz250, 0, false, 20, true, 4⟩ .quiet .idle
    s.chain.state = .idle ∧ 1 ≤ s.chain.settings.modules ∧ s.chain.settings.modules ≤ 12 ∧ s.chain.settings.handshake = false ∧
      s.chain.settings.interval = 0 ∧ s.dispatcher.busy = none ∧
      (List.replicate 96 (0 : Byte)).length = 8 * s.chain.settings.modules := by decide +kernel

/-! ## Witnesses: drives -/

/-- Drive 0 of this kind, bound to a crossing. -/
def boundDrive (k : DriveKind) : State := ready.setDrive 0 { Drive.reset with kind := k, bound := some 1 }

/-- A state in which input 15 has this use and level. -/
def sensing (s : State) (u : Use) (level : Bool) : State :=
  { s with inputs := s.inputs.set 15 { Input.reset level with trigger := .high, use := u } }

theorem witness_DriveConfigStartsTheDriveAfresh :
    (Takes ready 0x30 [byte1 3, 1, 0, byte1 CaptureUnit.us256.code, 0x03, 0xE9, 0, 0, 0, 0, 0, 0, 99, 0, byte1 RideEnd.home.code] ∧
      ready.drives[(3 : Fin 4)].bound = none) ∧
    Takes ready 0x30 [byte1 3, 2, 0, 0, 0, 99] ∧ Takes ready 0x30 [byte1 3, 0] ∧ driveConfigFits 2 [0, 0, 0, 99] = true ∧
    Takes (boundDrive (.traverse sweep)) 0x30 (byte1 0 :: 2 :: [0, 0, 0, 99]) ∧
    (boundDrive (.traverse sweep)).drives[(0 : Fin 4)].bound ≠ none := by decide +kernel

theorem witness_TunedGainsDriveTheSpeedLoop : Takes ready 0x31 [byte1 3, 0, 255, 1, 0] ∧
    (Takes ready 0x31 [4, 0, 0, 0, 0] ∧ 3 < (4#8).toNat) ∧
    (withDrive (.rotary spin)).drives[(0 : Fin 4)].kind = .rotary spin ∧ (withDrive (.rotary spin)).service.state = .normal ∧
    spin.state = .running ∧ spin.durationRunning = false ∧ spin.stall + 1 < spin.stallMs / 50 := by decide +kernel

/-- A barrier's drive that stands. -/
def still : Traverse := ⟨600, 5000, .mid, false, 0⟩

theorem witness_DriveRequestsRunStopAndMove : let s := withDrive (.rotary spin); let i := sensing s (.index 0) true
    let v := withDrive (.traverse sweep); let o := sensing (withDrive (.traverse still)) (.endOpen 0)
    (s.drives[(0 : Fin 4)].kind = .rotary spin ∧ s.drives[(0 : Fin 4)].direction = .low ∧ spin.state = .running ∧
      Takes s 0x32 [byte1 0, 0x17, 0x71, byte1 Direction.low.code, 0x0E, 0x11] ∧
      Takes s 0x32 [byte1 0, 0, 0, byte1 Direction.high.code, 0, 0] ∧ Takes s 0x33 [byte1 0, 0] ∧ Takes s 0x33 [byte1 0, 1] ∧
      Takes s 0x34 [byte1 0, 2]) ∧
    (i.drives[(0 : Fin 4)].kind = .rotary spin ∧ i.inputs[(15 : Fin 16)].use = .index 0 ∧ Takes i 0x33 [byte1 0, 2]) ∧
    (v.drives[(0 : Fin 4)].kind = .traverse sweep ∧ v.drives[(0 : Fin 4)].bound = none ∧ sweep.state = .movingOpen ∧
      Takes v 0x33 [byte1 0, byte1 1]) ∧
    (∀ level : Bool, (o level).drives[(0 : Fin 4)].kind = .traverse still ∧ (o level).drives[(0 : Fin 4)].bound = none ∧
      (o level).inputs[(15 : Fin 16)].use = endUse 0 .opened ∧ (o level).inputs[(15 : Fin 16)].active = level ∧
      (∀ j : Fin 16, (o level).inputs[j].use = endUse 0 .opened → j = 15) ∧ Takes (o level) 0x34 [byte1 0, byte1 End.opened.code]) ∧
    (boundDrive (.traverse still)).drives[(0 : Fin 4)].kind = .traverse still ∧
    (boundDrive (.traverse still)).drives[(0 : Fin 4)].bound ≠ none ∧
    Takes (boundDrive (.traverse still)) 0x34 [byte1 0, 1] ∧ (1#8).toNat ≤ 1 ∧
    Takes (boundDrive (.traverse still)) 0x34 [byte1 0, 2] ∧ 1 < (2#8).toNat := by
  decide +kernel

/-- R95, R133, R182: a request that fails two checks takes the result of the one that its rule gives first: the end before the drive's
binding, the mode before a train in LOST. -/
theorem test_checks_in_rule_order :
    (after (.driveMove 7 [0, 2]) (boundDrive (.traverse still))).link.replies = [⟨0xB4#8, 7, [3]⟩] ∧
      (after (.trainStop 7 [5, 2]) (ready.setTrain 5 { Train.reset with state := .lost })).link.replies = [⟨0xCC#8, 7, [3]⟩] := by
  decide +kernel

/-- A carousel at its greatest duty that does not turn. -/
def stuck : Rotary := { spin with target := 6000, setpoint := 6000, stall := 19 }

/-- A carousel on its last interval of a ride. -/
def riding : Rotary := { spin with durationRunning := true, durationMs := 50 }

/-- A carousel that looks for its index. -/
def homing : Rotary := { spin with state := .homing, target := 30, setpoint := 30, homeRunning := true, homeMs := 50 }

/-- A crossing in CLOSING whose barrier moves. -/
def closing : State :=
  (boundDrive (.traverse { sweep with state := .movingClosed })).setCrossing 1 ⟨some 3, some 0, 3000, some .closing, false, 0⟩

theorem witness_ControlIntervalsEndStallsRidesAndTravels :
    ((withDrive (.rotary stuck)).drives[(0 : Fin 4)].kind = .rotary stuck ∧ stuck.state = .running ∧ stuck.history = [] ∧
      50 ≤ stuck.stallMs ∧ stuck.stallDuty ≤ ((withDrive (.rotary stuck)).drives[(0 : Fin 4)].loop { stuck with speed := 0 }).duty ∧
      (withDrive (.rotary stuck)).Listening ∧ (withDrive (.rotary stuck)).service.state = .normal) ∧
    (∀ u ∈ [Use.general, .index 0], let s := sensing (withDrive (.rotary riding)) u false
      s.drives[(0 : Fin 4)].kind = .rotary riding ∧ s.service.state = .normal ∧ riding.state = .running ∧ riding.rideEnd = .home ∧
        riding.durationRunning = true ∧ riding.stall + 1 < riding.stallMs / 50 ∧ s.inputs[(15 : Fin 16)].use = u ∧ s.Listening ∧
        (u = .general → ∀ i : Fin 16, s.inputs[i].use ≠ .index 0)) ∧
    ((withDrive (.rotary homing)).drives[(0 : Fin 4)].kind = .rotary homing ∧ homing.state = .homing ∧ homing.homeRunning = true ∧
      homing.stall + 1 < homing.stallMs / 50 ∧ (withDrive (.rotary homing)).Listening) ∧
    (closing.drives[(0 : Fin 4)].kind = .traverse { sweep with state := .movingClosed } ∧ closing.service.state = .normal ∧
      End.closed.movingState = .movingClosed ∧ closing.Listening ∧ closing.drives[(0 : Fin 4)].bound = some 1 ∧
      closing.crossings[(1 : Fin 2)].state = some .closing) ∧
    ((withDrive (.traverse { sweep with travelMs := 51 })).drives[(0 : Fin 4)].kind = .traverse { sweep with travelMs := 51 } ∧
      sweep.travelRunning = true ∧ sweep.state = End.opened.movingState) ∧
    (inService ready).service.state ≠ .normal := by
  unfold State.Listening
  decide +kernel

theorem witness_TachEdgesCapturePeriods : let p := { spin with primed := true, counter := 65533, history := [1, 2, 3, 4] }
    ((withDrive (.rotary p)).drives[(0 : Fin 4)].kind = .rotary p ∧ p.primed = true ∧ p.counter + 1 < 65535 ∧
      65535 ≤ p.counter + 2) ∧
    ((withDrive (.rotary spin)).drives[(0 : Fin 4)].kind = .rotary spin ∧ spin.primed = false ∧ spin.counter + 65534 < 65535) ∧
    ready.drives[(0 : Fin 4)].kind = .unconfigured := by decide +kernel

/-! ## Witnesses: blocks, paths and turnouts -/

/-- Blocks 0 and 1 configured, with a path from 0 to 1 that needs turnout 7 DIVERGE where asked, and one back. -/
def layout (needs : Bool) : State :=
  does [.blockConfig 0 [0, 30, 50, 24, 0, 30], .blockConfig 0 [1, 30, 50, 24, 0, 30],
    .pathAdd 0 (if needs then [0, 1, 0, 1, 7, byte1 Points.diverge.code] else [0, 1, 0, 0]), .pathAdd 0 [1, 0, 1, 0]] ready

/-- Train 7 STOPPED on the occupied block 0 of the layout. -/
def parked (needs : Bool) : State :=
  does [.blksenseChange 0 true, .occupancyChange 0, .trainPlace 0 [7, 0, 0, 30, 60, 0, 150]] (layout needs)

/-- Train 7 with a route to block 1. -/
def routed (needs : Bool) : State := does [.trainRoute 0 [113, 60, 1]] (parked needs)

/-- The throw that train 7's route needs is queued and locked, a recharge ends. -/
def lockedStep : State := { routed true with pending := [.cduRechargeEnd] }

theorem witness_StepsKeepTurnoutsSound : (lockedStep.LocksSound ∧ lockedStep.ThrowsSound ∧ lockedStep.PointsSound) ∧
    lockedStep.turnouts[(7 : Fin 8)].locks = 1 ∧ ∃ t, step lockedStep = .next t :=
  ⟨⟨by unfold State.LocksSound Path.Distinct; decide +kernel, by unfold State.ThrowsSound; decide +kernel,
    by unfold State.PointsSound; refine ⟨?_, ?_⟩ <;> decide +kernel⟩, by decide +kernel, _, rfl⟩

/-- A path table that is full. -/
def fullPaths : State :=
  { ready with
    paths :=
      (((List.finRange 16).flatMap fun a => (List.finRange 16).map fun b => (⟨a, b, .fwd, []⟩ : Path)).filter fun p =>
        p.src != p.dst).take 48 }

theorem witness_BlocksAndPathsAreConfigured : let p : Path := ⟨0, 15, .rev, [⟨7, .normal⟩, ⟨0, .diverge⟩]⟩
    let frame (p : Path) : List Byte := [byte1 p.src, byte1 p.dst, byte1 p.polarity.code, byte1 p.needs.length] ++
      p.needs.flatMap (fun n => [byte1 n.turnout, byte1 n.position.code])
    (ready.blocks[(15 : Fin 16)].reservation = .free ∧ ready.blocks[(15 : Fin 16)].detector = ready.blocks[(15 : Fin 16)].occupied ∧
      Takes ready 0x40 [byte1 15, 1, 0, 128, 255, 0]) ∧
    ((parked true).blocks[(0 : Fin 16)].reservation ≠ .free ∧ Takes (parked true) 0x40 [byte1 0, 0, 0, 0, 0, 0] ∧
      Takes (parked true) 0x42 []) ∧
    ((layout true).blocks[(1 : Fin 16)].detector ≠ true ∧ (layout true).blocks[(1 : Fin 16)].configured = true ∧
      true ≠ (layout true).blocks[(1 : Fin 16)].occupied ∧ (layout true).blocks[(1 : Fin 16)].debounceRunning = false) ∧
    (ready.blocks[(15 : Fin 16)].detector ≠ true ∧ ready.blocks[(15 : Fin 16)].configured = false) ∧
    (p.src ≠ p.dst ∧ p.needs.length ≤ 2 ∧ p.Distinct ∧ Takes (routed true) 0x41 (frame p) ∧
      (∀ b : Fin 16, ∀ g ∈ (routed true).blocks[b].grant, (routed true).blocks[b].reservation ≠ .free →
        g.src ≠ p.src ∨ g.dst ≠ p.dst) ∧ (routed true).paths.length < 48) ∧
    (fullPaths.paths.length = 48 ∧ (⟨0, 15, .fwd, []⟩ : Path) ∈ fullPaths.paths ∧ Takes fullPaths 0x41 (frame p)) ∧
    Takes ready 0x42 [] ∧ ∀ b : Fin 16, ready.blocks[b].reservation = .free := by
  unfold Path.Distinct
  decide +kernel

/-- Train 6 on block 2, with a route by this path on. -/
def follow (b : Fin 16) (needs : Bool) (s : State) : State :=
  does [.blockConfig 0 [2, 30, 50, 24, 0, 30], .blksenseChange 2 true, .occupancyChange 2,
    .trainPlace 0 [6, 2, 0, 30, 60, 0, 150],
    .pathAdd 0 ([2, byte1 b, 0] ++ if needs then [1, 7, byte1 Points.diverge.code] else [0]), .trainRoute 0 [97, 60, byte1 b]] s

/-- Train 6 waits for block 3, which is not configured. -/
def unbuilt : State := follow 3 false ready

theorem witness_BlocksAndPathsAreConfigured_passes :
    ((unbuilt.TrackSound ∧ unbuilt.StoresSound ∧ unbuilt.ThrowsSound ∧ unbuilt.BarriersSound) ∧
      (routed true).TrackSound ∧ (routed true).StoresSound ∧ (routed true).ThrowsSound ∧ (routed true).BarriersSound) ∧
    unbuilt.blocks[(3 : Fin 16)].reservation = .free ∧ unbuilt.blocks[(3 : Fin 16)].configured = false ∧
    unbuilt.blocks[(3 : Fin 16)].waiting = [6] ∧ unbuilt.blocks[(3 : Fin 16)].detector = unbuilt.blocks[(3 : Fin 16)].occupied ∧
    Takes unbuilt 0x40 [byte1 3, 30, 50, 24, 0, 30] := by
  refine ⟨⟨⟨?_, ?_, ?_, barriers_sound_of _ ?_⟩, ?_, ?_, ?_, barriers_sound_of _ ?_⟩, ?_⟩
  all_goals first | unfold State.TrackSound State.TrainSound | unfold State.StoresSound | unfold State.ThrowsSound | skip
  all_goals decide +kernel

/-- A block's detector with its debounce about to end. -/
def sensed (b : Fin 16) (occupied : Bool) (s : State) : State := does [.blksenseChange b occupied] s

theorem witness_OccupancyChangesMoveOrStopTrains :
    (∀ s ∈ [sensed 1 true (parked true), sensed 1 true (routed true), sensed 1 true (routed false),
        sensed 0 false (does [.occupancyChange 1] (sensed 1 true (routed false))), sensed 0 false (routed true)], s.TrackSound) ∧
    ((let s := sensed 1 true (parked true)
     s.blocks[(1 : Fin 16)].debounceRunning = true ∧ s.blocks[(1 : Fin 16)].detector = true ∧
       s.blocks[(1 : Fin 16)].reservation = .free ∧ s.Listening ∧ s.trains[(7 : Fin 8)].head = some 0 ∧
       (∃ p ∈ s.paths, p.src = 0 ∧ p.dst = 1) ∧ s.trains[(7 : Fin 8)].state = .stopped) ∧
    (let s := sensed 1 true (routed true)
     s.blocks[(1 : Fin 16)].debounceRunning = true ∧ s.blocks[(1 : Fin 16)].detector = true ∧
       s.trains[(7 : Fin 8)].next = some 1 ∧ s.trains[(7 : Fin 8)].state = .waiting ∧
       s.blocks[(1 : Fin 16)].reservation = .setting) ∧
    (let s := sensed 1 true (routed false)
     s.blocks[(1 : Fin 16)].debounceRunning = true ∧ s.blocks[(1 : Fin 16)].detector = true ∧
       s.trains[(7 : Fin 8)].next = some 1 ∧ s.trains[(7 : Fin 8)].head = some 0 ∧ s.trains[(7 : Fin 8)].state = .running ∧
       s.blocks[(1 : Fin 16)].reservation = .reserved ∧ s.Listening ∧ s.blocks[(0 : Fin 16)].occupied = true ∧
       s.trains[(7 : Fin 8)].route = [1]) ∧
    (let s := sensed 0 false (does [.occupancyChange 1] (sensed 1 true (routed false)))
     s.blocks[(0 : Fin 16)].debounceRunning = true ∧ s.blocks[(0 : Fin 16)].detector = false ∧
       s.trains[(7 : Fin 8)].tail = some 0 ∧ s.trains[(7 : Fin 8)].head = some 1 ∧ s.blocks[(1 : Fin 16)].occupied = true ∧
       s.trains[(7 : Fin 8)].state ≠ .lost ∧ s.trains[(7 : Fin 8)].state ≠ .fault) ∧
    let s := sensed 0 false (routed true)
    s.blocks[(0 : Fin 16)].debounceRunning = true ∧ s.blocks[(0 : Fin 16)].detector = false ∧ s.Listening ∧
      s.trains[(7 : Fin 8)].head = some 0 ∧ s.trains[(7 : Fin 8)].tail = none ∧ s.trains[(7 : Fin 8)].state = .waiting ∧
      ∀ n : Fin 16, s.trains[(7 : Fin 8)].next = some n → s.blocks[n].reservation ≠ .reserved) := by
  refine ⟨?_, ?_⟩
  · unfold State.TrackSound State.TrainSound
    decide +kernel
  · unfold State.Listening
    refine ⟨?_, ?_, ?_, ?_, ?_⟩ <;> decide +kernel

/-- Train 7 in block 1 with its tail in block 0, which is about to clear. -/
def tailed (s : State) : State := sensed 0 false (does [.occupancyChange 1] (sensed 1 true s))

theorem witness_OccupancyChangesMoveOrStopTrains_passes : let s := follow 0 true (tailed (routed false))
    (s.TrackSound ∧ s.StoresSound ∧ s.LocksSound ∧ s.PointsSound ∧ s.CanSet ⟨2, 0, .fwd, [⟨7, .diverge⟩]⟩) ∧
    s.blocks[(0 : Fin 16)].debounceRunning = true ∧ s.blocks[(0 : Fin 16)].detector = false ∧ s.trains[(7 : Fin 8)].tail = some 0 ∧
    s.trains[(7 : Fin 8)].head = some 1 ∧ s.blocks[(1 : Fin 16)].occupied = true ∧ s.trains[(7 : Fin 8)].state ≠ .lost ∧
    s.trains[(7 : Fin 8)].state ≠ .fault ∧ s.blocks[(0 : Fin 16)].configured = true ∧ s.blocks[(0 : Fin 16)].waiting = 6 :: [] ∧
    (⟨2, 0, .fwd, [⟨7, .diverge⟩]⟩ : Path) ∈ s.paths ∧ s.trains[(6 : Fin 8)].head = some 2 ∧
    ∀ k : Fin 16, k ≠ 0 → s.blocks[k].waiting = [] := by
  refine ⟨⟨?_, ?_, ?_, ?_, ?_⟩, ?_⟩
  · unfold State.TrackSound State.TrainSound; decide +kernel
  · unfold State.StoresSound; decide +kernel
  · unfold State.LocksSound Path.Distinct; decide +kernel
  · unfold State.PointsSound; refine ⟨?_, ?_⟩ <;> decide +kernel
  · unfold State.CanSet; decide +kernel
  · decide +kernel

/-- Turnout 7 in this condition, the discharge unit and the throw queue in theirs. -/
def throwing (x : Turnout) (c : CduState) (q : List (Fin 8)) : State :=
  { ready.setTurnout 7 x with cdu := ⟨c, 1, 500⟩, throwQueue := q }

theorem witness_TurnoutsAreThrownOneAtATime : let r := Turnout.reset; let frame := [byte1 7, byte1 Points.normal.code]
    let locked (p : Points) := throwing { r with locks := 1, lockedAt := some p } .recharging []
    (Takes ready 0x43 [byte1 7, 19] ∧ Takes ready 0x43 [byte1 7, 251] ∧ Takes ready 0x47 [0x07, 0xD1]) ∧
    (∀ p ∈ [Points.normal, .diverge], Takes (locked p) 0x44 frame ∧ (locked p).turnouts[(7 : Fin 8)].locks ≠ 0 ∧
      (locked p).turnouts[(7 : Fin 8)].lockedAt = some p) ∧
    (let s := throwing { r with queued := some .diverge } .recharging [7]
     Takes s 0x44 frame ∧ s.turnouts[(7 : Fin 8)].locks = 0 ∧ s.turnouts[(7 : Fin 8)].queued ≠ none) ∧
    (let s := throwing { r with firing := some .normal } (.firing 7) []
     Takes s 0x44 frame ∧ s.turnouts[(7 : Fin 8)].queued = none ∧ s.turnouts[(7 : Fin 8)].firing = some .normal ∧
       s.cdu.state = .firing 7 ∧ s.Listening) ∧
    (Takes ready 0x44 frame ∧ ready.turnouts[(7 : Fin 8)] = r ∧ r.firing ≠ some .normal ∧ r.position ≠ some .normal ∧
      ready.cdu.state ≠ .ready) ∧
    (let s := throwing r .ready []
     Takes s 0x44 frame ∧ s.turnouts[(7 : Fin 8)] = r ∧ s.cdu.state = .ready ∧ s.service.state = .normal ∧ s.throwQueue = []) ∧
    (ready.cdu.state = .recharging ∧ ready.throwQueue = []) ∧
    let s := throwing { r with queued := some .normal } .recharging [7]
    s.cdu.state = .recharging ∧ s.service.state = .normal ∧ s.throwQueue = 7 :: [] ∧
      s.turnouts[(7 : Fin 8)].queued = some .normal ∧ s.turnouts[(7 : Fin 8)].position ≠ some .normal := by
  unfold State.Listening
  decide +kernel

/-! ## Witnesses: trains and crossings -/

/-- Train 7 of a state changed. -/
def train7 (s : State) (f : Train → Train) : State := s.setTrain 7 (f s.trains[(7 : Fin 8)])

theorem witness_TrainsArePlacedStoppedAndRemoved :
    (∀ s ∈ [layout true, routed true, train7 (routed false) fun x => { x with step := 1 }], s.TrackSound) ∧
    (let moving := train7 (routed false) fun x => { x with step := 1 }
    let l := layout true
    (l.trains[(7 : Fin 8)].state = .free ∧ l.blocks[(1 : Fin 16)].configured = true ∧ l.blocks[(1 : Fin 16)].reservation = .free ∧
      (∀ c : Fin 2, l.crossings[c].block ≠ some 1) ∧ Takes l 0x48 [byte1 7, byte1 1, byte1 Polarity.rev.code, 0, 0, 0x01, 0xF5] ∧
      Takes l 0x49 [byte1 7] ∧ Takes l 0x4B [byte1 7, 128] ∧ Takes l 0x4C [byte1 7, 2]) ∧
    ((routed true).trains[(7 : Fin 8)].state ≠ .free ∧ Takes (routed true) 0x49 [byte1 7] ∧
      Takes (routed true) 0x4B [byte1 7, 128]) ∧
    (moving.trains[(7 : Fin 8)].state.driving = true ∧ moving.trains[(7 : Fin 8)].step ≠ 0 ∧
      moving.Listening ∧ Takes moving 0x4C (byte1 7 :: outFlag false) ∧ Takes moving 0x4C (byte1 7 :: outFlag true)) ∧
    ((routed true).trains[(7 : Fin 8)].state.driving = true ∧ (routed true).trains[(7 : Fin 8)].step = 0 ∧
      Takes (routed true) 0x4C (byte1 7 :: outFlag false)) ∧
    ((train7 (parked true) fun x => { x with state := .fault }).trains[(7 : Fin 8)].state = .fault ∧
      Takes (train7 (parked true) fun x => { x with state := .fault }) 0x4C [byte1 7, 1] ∧ (1#8).toNat ≤ 1 ∧
      Takes (train7 (parked true) fun x => { x with state := .fault }) 0x4C [byte1 7, 2] ∧ 1 < (2#8).toNat) ∧
    (parked true).trains[(7 : Fin 8)].state = .stopped ∧ Takes (parked true) 0x4C (byte1 7 :: outFlag true)) := by
  refine ⟨?_, ?_⟩
  · unfold State.TrackSound State.TrainSound
    decide +kernel
  · unfold State.Listening
    decide +kernel

theorem witness_TrainsArePlacedStoppedAndRemoved_passes : let s := follow 1 true (routed true)
    (s.TrackSound ∧ s.StoresSound ∧ s.LocksSound ∧ s.PointsSound ∧ s.CanSet ⟨2, 1, .fwd, [⟨7, .diverge⟩]⟩) ∧
    s.blocks[(1 : Fin 16)].holder = some 7 ∧ s.trains[(7 : Fin 8)].state.driving = true ∧ s.trains[(7 : Fin 8)].next = some 1 ∧
    s.blocks[(1 : Fin 16)].configured = true ∧ s.blocks[(1 : Fin 16)].occupied = false ∧ s.blocks[(1 : Fin 16)].waiting = 6 :: [] ∧
    (⟨2, 1, .fwd, [⟨7, .diverge⟩]⟩ : Path) ∈ s.paths ∧ s.trains[(6 : Fin 8)].head = some 2 ∧
    (∀ k : Fin 16, k ≠ 1 → s.blocks[k].waiting = []) ∧ Takes s 0x49 [byte1 7] ∧ Takes s 0x4C (byte1 7 :: outFlag true) ∧
    s.blocks[(1 : Fin 16)].waiting.filter (fun z => z != 7) = 6 :: [] := by
  refine ⟨⟨?_, ?_, ?_, ?_, ?_⟩, ?_⟩
  · unfold State.TrackSound State.TrainSound; decide +kernel
  · unfold State.StoresSound; decide +kernel
  · unfold State.LocksSound Path.Distinct; decide +kernel
  · unfold State.PointsSound; refine ⟨?_, ?_⟩ <;> decide +kernel
  · unfold State.CanSet; decide +kernel
  · decide +kernel

/-- Eleven more blocks after block 1. -/
def onward : List (Fin 16) := [0, 1, 0, 1, 0, 1, 0, 1, 0, 1, 0]

/-- Train 7 parked with turnout 7 as its path wants it. -/
def aligned : State := (parked true).setTurnout 7 { Turnout.reset with position := some .diverge }

/-- Train 7 parked with turnout 7 being thrown the other way. -/
def opposed : State :=
  { (parked true).setTurnout 7 { Turnout.reset with firing := some .normal } with cdu := ⟨.firing 7, 1, 500⟩ }

/-- Train 7 parked before a crossing that is OPEN. -/
def gated : State := does [.crossingConfig 0 [1, 1, 0xFF, 11, 184]] (parked true)

/-- Train 7 parked, turnout 7 locked as its path wants it by train 6. -/
def shared : State :=
  does [.blockConfig 0 [2, 30, 50, 24, 0, 30], .blockConfig 0 [3, 30, 50, 24, 0, 30],
    .pathAdd 0 [2, 3, 0, 1, 7, byte1 Points.diverge.code], .blksenseChange 2 true, .occupancyChange 2,
    .trainPlace 0 [6, 2, 0, 30, 60, 0, 150], .trainRoute 0 [97, 60, 3]] (parked true)

theorem witness_RoutesAreGrantedOrWaitedFor :
    ((∀ s ∈ [parked true, aligned, gated, shared, opposed], s.TrackSound) ∧
      (∀ s ∈ [parked true, aligned, gated, shared, opposed], s.StoresSound) ∧
      (∀ s ∈ [parked true, aligned, gated, shared], s.LocksSound) ∧
      ∀ s ∈ [parked true, aligned, gated, shared], s.CrossingsSound) ∧
    (shared.turnouts[(7 : Fin 8)].lockedAt = some .diverge ∧ shared.turnouts[(7 : Fin 8)].locks = 1) ∧
    gated.crossings[(1 : Fin 2)].block = some 1 ∧
    (let p : Path := ⟨0, 1, .fwd, [⟨7, .diverge⟩]⟩
    let frame : List Byte := byte1 (16 * 7 + (onward.length + 1)) :: 128 :: ((1 : Fin 16) :: onward).map fun k => byte1 k.val
    (∀ s ∈ [parked true, aligned, gated, shared], s.trains[(7 : Fin 8)].state = .stopped ∧
      s.trains[(7 : Fin 8)].head = some 0 ∧ s.trains[(7 : Fin 8)].next = none ∧ onward.length ≤ 11 ∧
      (∀ q ∈ ((0 : Fin 16) :: 1 :: onward).zip (1 :: onward), ∃ p ∈ s.paths, p.src = q.1 ∧ p.dst = q.2) ∧ p ∈ s.paths ∧
      s.blocks[(1 : Fin 16)].configured = true ∧ s.blocks[(1 : Fin 16)].reservation = .free ∧
      s.blocks[(1 : Fin 16)].occupied = false ∧ s.blocks[(1 : Fin 16)].waiting = [] ∧ Takes s 0x4A frame) ∧
    (∀ s ∈ [parked true, aligned, gated], s.turnouts[(7 : Fin 8)].locks = 0 ∧ s.turnouts[(7 : Fin 8)].firing = none) ∧
    (∀ c : Fin 2, aligned.crossings[c].block ≠ some 1) ∧
    (let s := train7 (routed false) fun x => { x with next := none, route := [] }
     s.trains[(7 : Fin 8)].state = .running ∧ s.trains[(7 : Fin 8)].head = some 0 ∧ s.trains[(7 : Fin 8)].next = none ∧
       s.trains[(7 : Fin 8)].waitingFor = none ∧ Takes s 0x4A [byte1 (16 * 7), 128]) ∧
    (aligned.turnouts[(7 : Fin 8)].position = some .diverge ∧ aligned.turnouts[(7 : Fin 8)].queued = none) ∧
    (opposed.trains[(7 : Fin 8)].state = .stopped ∧
      opposed.trains[(7 : Fin 8)].head = some 0 ∧ opposed.trains[(7 : Fin 8)].next = none ∧
      (∀ q ∈ ((0 : Fin 16) :: 1 :: onward).zip (1 :: onward), ∃ p ∈ opposed.paths, p.src = q.1 ∧ p.dst = q.2) ∧
      p ∈ opposed.paths ∧ opposed.turnouts[(7 : Fin 8)].locks = 0 ∧ opposed.turnouts[(7 : Fin 8)].firing ≠ none ∧
      opposed.turnouts[(7 : Fin 8)].firing ≠ some .diverge ∧ Takes opposed 0x4A frame) ∧
    ((parked true).trains[(7 : Fin 8)].state = .stopped ∧
      (∀ p ∈ (parked true).paths, p.src ≠ 0 ∨ p.dst ≠ 15) ∧ Takes (parked true) 0x4A [byte1 (16 * 7 + 1), 60, 15]) ∧
    (train7 (parked true) fun x => { x with state := .lost }).trains[(7 : Fin 8)].state = .lost ∧
    Takes (train7 (parked true) fun x => { x with state := .lost }) 0x4A [byte1 (16 * 7)]) := by
  refine ⟨⟨?_, ?_, ?_, ?_⟩, ?_, ?_, ?_⟩
  · unfold State.TrackSound State.TrainSound
    decide +kernel
  · unfold State.StoresSound
    decide +kernel
  · unfold State.LocksSound Path.Distinct
    decide +kernel
  · unfold State.CrossingsSound
    decide +kernel
  · decide +kernel
  · decide +kernel
  · refine ⟨?_, ?_, ?_, ?_, ?_, ?_, ?_, ?_⟩ <;> decide +kernel

/-- Train 7 with its route, changed. -/
def rolling (f : Train → Train) : State := train7 (routed false) f

theorem witness_RampIntervalsMoveTheSteps :
    (let s := rolling id
     s.service.state = .normal ∧ s.trains[(7 : Fin 8)].progressMs + 20 < s.transitMs 7 ∧
       s.trains[(7 : Fin 8)].stopPending = false ∧ s.trains[(7 : Fin 8)].state = .running ∧ s.trains[(7 : Fin 8)].speed = 60) ∧
    (∀ ph ∈ [ApproachPhase.marker, .timing, .braking], let s := rolling fun x =>
        { x with state := .approach, phase := ph, step := 3, speed := 127, approachMs := 20, progressMs := 29979 }
      s.service.state = .normal ∧ s.trains[(7 : Fin 8)].progressMs + 20 < s.transitMs 7 ∧
        s.trains[(7 : Fin 8)].stopPending = false ∧ s.trains[(7 : Fin 8)].state = .approach ∧ s.trains[(7 : Fin 8)].phase = ph ∧
        s.trains[(7 : Fin 8)].head = some 0 ∧ ∀ y : Fin 8, s.trains[y].progressMs + 20 < s.transitMs y ∨ s.trains[y].state = .free) ∧
    (∀ st ∈ [TrainState.running, .approach], ∀ n ∈ [0, 1], let s := rolling fun x =>
        { x with state := st, stopPending := true, route := [], step := n }
      s.service.state = .normal ∧ s.trains[(7 : Fin 8)].stopPending = true ∧ s.trains[(7 : Fin 8)].state = st ∧
        s.trains[(7 : Fin 8)].step = n ∧ s.trains[(7 : Fin 8)].progressMs + 20 < s.transitMs 7 ∧ s.Listening) ∧
    (let s := rolling fun x => { x with state := .approach, phase := .braking, step := 0, route := [] }
     s.trains[(7 : Fin 8)].step = 0 ∧ s.trains[(7 : Fin 8)].stopPending = false ∧ s.trains[(7 : Fin 8)].state = .approach ∧
       s.trains[(7 : Fin 8)].phase = .braking ∧ s.trains[(7 : Fin 8)].route = [] ∧ s.Listening) ∧
    (let s := rolling fun x => { x with step := 60, progressMs := 29980 }
     s.service.state = .normal ∧ s.trains[(7 : Fin 8)].state = .running ∧ s.trains[(7 : Fin 8)].stopPending = false ∧
       s.trains[(7 : Fin 8)].step = s.trains[(7 : Fin 8)].speed ∧ 0 < s.trains[(7 : Fin 8)].speed ∧ 20 ≤ s.transitMs 7 ∧
       s.Listening) ∧
    (∀ s ∈ [parked false, routed true, rolling fun x => { x with speed := 0 }], s.trains[(7 : Fin 8)].step = 0 ∧
      (s.trains[(7 : Fin 8)].state = .stopped ∨ s.trains[(7 : Fin 8)].state = .waiting ∨
        (s.trains[(7 : Fin 8)].state = .running ∧ s.trains[(7 : Fin 8)].speed = 0))) ∧
    (∀ w ∈ [(TrainState.running, 1, 0), (.approach, 127, 500), (.waiting, 127, 0)], let s := rolling fun x =>
        { x with state := w.1, step := w.2.1, kick := w.2.2 }
      s.service.state = .normal ∧ s.blocks[(1 : Fin 16)].reservation = .reserved ∧ s.blocks[(1 : Fin 16)].holder = some 7 ∧
        s.trains[(7 : Fin 8)].state = w.1 ∧ s.trains[(7 : Fin 8)].step = w.2.1 ∧ s.trains[(7 : Fin 8)].kick = w.2.2) ∧
    (ready.blocks[(1 : Fin 16)].holder = none ∧ (routed true).blocks[(1 : Fin 16)].reservation ≠ .reserved ∧
      (rolling id).blocks[(1 : Fin 16)].holder = some 7 ∧ (rolling id).trains[(7 : Fin 8)].step = 0) ∧
    (inService ready).service.state ≠ .normal := by
  unfold State.Listening
  refine ⟨?_, ?_, ?_, ?_, ?_, ?_, ?_, ?_, ?_⟩ <;> decide +kernel

/-- Crossing 1 in this condition, and drive 0. -/
def crossed (x : Crossing) (k : DriveKind) : State :=
  (ready.setCrossing 1 x).setDrive 0 { Drive.reset with kind := k, bound := if x.barrier = some 0 then some 1 else none }

/-- Train 7 WAITING for crossing 1, which has no barrier. -/
def atCrossing : State := does [.crossingConfig 0 [1, 1, 0xFF, 11, 184], .trainRoute 0 [113, 60, 1]] (parked false)

/-- The same, with a turnout to be thrown before. -/
def atBoth : State := does [.trainRoute 0 [113, 60, 1]] gated

/-- Train 7 RUNNING toward block 1 behind a CLOSED crossing with a barrier. -/
def behindBarrier : State :=
  ((routed false).setCrossing 1 ⟨some 1, some 0, 3000, some .closed, false, 0⟩).setDrive 0
    { Drive.reset with kind := .traverse still, bound := some 1 }

theorem witness_CrossingsCloseBeforeTrains :
    (atCrossing.CrossingsSound ∧ atCrossing.TrackSound ∧ atBoth.CrossingsSound) ∧
    (let up := withDrive (.traverse still)
    (ready.crossings[(1 : Fin 2)].barrier = none ∧ ready.crossings[(1 : Fin 2)].block = none ∧
      ready.blocks[(15 : Fin 16)].reservation = .free ∧ (∀ q : Fin 2, q ≠ 1 → ready.crossings[q].block ≠ some 15) ∧
      Takes ready 0x50 [byte1 1, byte1 15, 0xFF, 0x27, 0x11]) ∧
    (up.crossings[(1 : Fin 2)].barrier = none ∧ up.crossings[(1 : Fin 2)].block = none ∧
      up.blocks[(15 : Fin 16)].reservation = .free ∧
      (∀ q : Fin 2, q ≠ 1 → up.crossings[q].block ≠ some 15 ∧ up.crossings[q].barrier ≠ some 0) ∧
      up.drives[(0 : Fin 4)].kind = .traverse still ∧ still.state ≠ .movingOpen ∧
      (∀ i : Fin 16, up.inputs[i].use = .endOpen 0 → up.inputs[i].active = false) ∧
      Takes up 0x50 [byte1 1, byte1 15, byte1 0, 0x27, 0x10]) ∧
    ((parked true).blocks[(0 : Fin 16)].reservation ≠ .free ∧ Takes (parked true) 0x50 [byte1 1, byte1 0, 0xFF, 0, 0]) ∧
    (∀ st ∈ [CrossingState.opened, .closed], let s := crossed ⟨some 15, none, 0, some st, false, 0⟩ .unconfigured
      s.crossings[(1 : Fin 2)].block = some 15 ∧ s.crossings[(1 : Fin 2)].barrier = none ∧
        s.blocks[(15 : Fin 16)].reservation = .free ∧ Takes s 0x51 [byte1 1]) ∧
    (let s := atCrossing
     s.crossings[(1 : Fin 2)].block = some 1 ∧ s.crossings[(1 : Fin 2)].barrier = none ∧
       s.blocks[(1 : Fin 16)].reservation = .setting ∧ s.blocks[(1 : Fin 16)].holder = some 7 ∧
       s.trains[(7 : Fin 8)].next = some 1 ∧ s.trains[(7 : Fin 8)].state = .waiting ∧
       (∀ p ∈ s.blocks[(1 : Fin 16)].grant, ∀ n ∈ p.needs, s.turnouts[n.turnout].position = some n.position ∧
         s.turnouts[n.turnout].queued = none ∧ s.turnouts[n.turnout].firing = none) ∧ Takes s 0x51 [byte1 1] ∧ s.Listening) ∧
    (let s := crossed ⟨some 15, some 0, 3000, some .warning, true, 1⟩ (.traverse still)
     s.crossings[(1 : Fin 2)] = ⟨some 15, some 0, 3000, some .warning, true, 1⟩ ∧ s.drives[(0 : Fin 4)].kind = .traverse still ∧
       still.state ≠ .movingClosed ∧ s.service.state = .normal ∧
       ∀ i : Fin 16, s.inputs[i].use = .endClosed 0 → s.inputs[i].active = false) ∧
    (let s := crossed ⟨some 15, none, 3000, some .warning, true, 1⟩ .unconfigured
     s.crossings[(1 : Fin 2)] = ⟨some 15, none, 3000, some .warning, true, 1⟩ ∧ s.service.state = .normal ∧
       s.blocks[(15 : Fin 16)].reservation ≠ .setting) ∧
    (∀ s ∈ [atCrossing, atBoth], s.crossings[(1 : Fin 2)].state = some .warning ∧ s.crossings[(1 : Fin 2)].timerRunning = true ∧
      s.crossings[(1 : Fin 2)].block = some 1 ∧ s.crossings[(1 : Fin 2)].barrier = none ∧ s.service.state = .normal ∧
      s.blocks[(1 : Fin 16)].reservation = .setting ∧ s.blocks[(1 : Fin 16)].holder = some 7) ∧
    (∃ p ∈ atBoth.blocks[(1 : Fin 16)].grant, ∃ n ∈ p.needs, atBoth.turnouts[n.turnout].position ≠ some n.position) ∧
    (let s := behindBarrier
     s.crossings[(1 : Fin 2)].block = some 1 ∧ s.crossings[(1 : Fin 2)].barrier = some 0 ∧
       s.drives[(0 : Fin 4)].kind = .traverse still ∧ still.state ≠ .movingClosed ∧
       (∀ i : Fin 16, s.inputs[i].use = .endClosed 0 → s.inputs[i].active = false) ∧
       s.blocks[(1 : Fin 16)].reservation = .reserved ∧ s.blocks[(1 : Fin 16)].holder = some 7 ∧
       s.trains[(7 : Fin 8)].next = some 1 ∧ s.trains[(7 : Fin 8)].state = .running ∧ s.trains[(7 : Fin 8)].head = some 0 ∧
       Takes s 0x51 [byte1 1]) ∧
    ready.crossings[(1 : Fin 2)].timerRunning = false ∧ (inService ready).service.state ≠ .normal) := by
  refine ⟨⟨?_, ?_, ?_⟩, ?_⟩
  · unfold State.CrossingsSound
    decide +kernel
  · unfold State.TrackSound State.TrainSound
    decide +kernel
  · unfold State.CrossingsSound
    decide +kernel
  · unfold State.Listening
    refine ⟨?_, ?_, ?_, ?_, ?_, ?_, ?_, ?_, ?_, ?_, ?_⟩ <;> decide +kernel

/-- Crossing 1 in this condition with drive 0 as its barrier where it names it, and an input for this end at this level. -/
def barred (x : Crossing) (e : End) (level : Bool) (s : State) : State :=
  sensing ((s.setCrossing 1 x).setDrive 0
    { Drive.reset with kind := .traverse still, bound := if x.barrier = some 0 then some 1 else none }) (endUse 0 e) level

/-- The crossings that a grant of block 1 can find: OPEN with and without a warning time and a barrier, OPENING, FAULT. -/
def grantable : List Crossing :=
  [⟨some 1, none, 1, some .opened, false, 0⟩, ⟨some 1, none, 0, some .opened, false, 0⟩, ⟨some 1, some 0, 1, some .opened, false, 0⟩,
    ⟨some 1, some 0, 0, some .opened, false, 0⟩, ⟨some 1, some 0, 0, some .opening, false, 0⟩, ⟨some 1, none, 0, some .fault, false, 0⟩,
    ⟨some 1, some 0, 0, some .fault, false, 0⟩]

/-- The crossings that a release of a block can find: WARNING and CLOSED with and without a barrier, CLOSING, FAULT. -/
def releasable (b : Fin 16) : List Crossing :=
  [⟨some b, none, 1, some .warning, true, 1⟩, ⟨some b, some 0, 1, some .warning, true, 1⟩, ⟨some b, some 0, 1, some .closing, false, 0⟩,
    ⟨some b, none, 1, some .closed, false, 0⟩, ⟨some b, some 0, 1, some .closed, false, 0⟩, ⟨some b, some 0, 0, some .fault, false, 0⟩]

def trackDecided (s : State) : Decidable s.TrackSound := by unfold State.TrackSound State.TrainSound; infer_instance

def crossingsDecided (s : State) : Decidable s.CrossingsSound := by unfold State.CrossingsSound; infer_instance

/-- The laws of tracks, of crossings and of barriers, decided. -/
def lawsHold (s : State) : Bool :=
  @decide s.TrackSound (trackDecided s) && @decide s.CrossingsSound (crossingsDecided s) && decide (BarrierLaws s)

theorem laws_of (s : State) (h : lawsHold s = true) : s.TrackSound ∧ s.CrossingsSound ∧ s.BarriersSound := by
  simp only [lawsHold, Bool.and_eq_true] at h
  exact ⟨@of_decide_eq_true _ (trackDecided s) h.1.1, @of_decide_eq_true _ (crossingsDecided s) h.1.2, barriers_sound_of s (of_decide_eq_true h.2)⟩

theorem witness_RoutesAreGrantedOrWaitedFor_crossings : ∀ x ∈ grantable, ∀ level : Bool, let s := barred x .closed level (parked true)
    (s.TrackSound ∧ s.CrossingsSound ∧ s.BarriersSound) ∧ s.StoresSound ∧ s.CanGrant 1 ⟨0, 1, .fwd, [⟨7, .diverge⟩]⟩ ∧
    s.trains[(7 : Fin 8)].state = .stopped ∧ s.trains[(7 : Fin 8)].head = some 0 ∧ s.trains[(7 : Fin 8)].next = none ∧
    (∀ q ∈ ((0 : Fin 16) :: 1 :: onward).zip (1 :: onward), ∃ p ∈ s.paths, p.src = q.1 ∧ p.dst = q.2) ∧
    (⟨0, 1, .fwd, [⟨7, .diverge⟩]⟩ : Path) ∈ s.paths ∧ s.blocks[(1 : Fin 16)].waiting = [] ∧ s.crossings[(1 : Fin 2)] = x ∧
    x.block = some 1 ∧ s.drives[(0 : Fin 4)].kind = .traverse still ∧ s.EndReads 0 .closed level ∧ s.Listening ∧
    Takes s 0x4A (byte1 (16 * 7 + (onward.length + 1)) :: 128 :: ((1 : Fin 16) :: onward).map fun k => byte1 k.val) := by
  intro x hx level
  refine ⟨laws_of _ ?_, ?_, ?_, ?_, ?_, ?_, ?_, ?_, ?_, ?_, ?_, ?_, ?_, ?_, ?_⟩ <;> revert x level
  all_goals first | unfold State.StoresSound | unfold State.CanGrant State.CanSet | unfold State.EndReads | unfold State.Listening | skip
  all_goals decide +kernel

theorem witness_CrossingsCloseBeforeTrains_releases : ∀ x ∈ releasable 1, ∀ level : Bool,
    let s := barred x .opened level (routed true)
    (s.TrackSound ∧ s.CrossingsSound ∧ s.BarriersSound) ∧ s.crossings[(1 : Fin 2)] = x ∧ x.block = some 1 ∧
    s.blocks[(1 : Fin 16)].holder = some 7 ∧ s.trains[(7 : Fin 8)].next = some 1 ∧ s.trains[(7 : Fin 8)].state.driving = true ∧
    s.blocks[(1 : Fin 16)].waiting = [] ∧ s.drives[(0 : Fin 4)].kind = .traverse still ∧ s.EndReads 0 .opened level ∧ s.Listening ∧
    Takes s 0x49 [byte1 7] ∧ Takes s 0x4C (byte1 7 :: outFlag true) := by
  intro x hx level
  refine ⟨laws_of _ ?_, ?_, ?_, ?_, ?_, ?_, ?_, ?_, ?_, ?_, ?_⟩ <;> revert x level
  all_goals first | unfold State.EndReads | unfold State.Listening | skip
  all_goals decide +kernel

theorem witness_OccupancyChangesMoveOrStopTrains_crossings : ∀ level : Bool,
    let s := barred ⟨some 0, some 0, 1, some .closed, false, 0⟩ .opened level (tailed (routed false))
    (s.TrackSound ∧ s.CrossingsSound ∧ s.BarriersSound) ∧ s.blocks[(0 : Fin 16)].debounceRunning = true ∧
    s.blocks[(0 : Fin 16)].detector = false ∧ s.trains[(7 : Fin 8)].tail = some 0 ∧ s.trains[(7 : Fin 8)].head = some 1 ∧
    s.blocks[(1 : Fin 16)].occupied = true ∧ s.trains[(7 : Fin 8)].state ≠ .lost ∧ s.trains[(7 : Fin 8)].state ≠ .fault ∧
    s.blocks[(0 : Fin 16)].waiting = [] ∧ s.crossings[(1 : Fin 2)].block = some 0 ∧
    s.crossings[(1 : Fin 2)].state = some .closed ∧ s.crossings[(1 : Fin 2)].barrier = some 0 ∧
    s.drives[(0 : Fin 4)].kind = .traverse still ∧ s.EndReads 0 .opened level ∧ s.Listening := by
  intro level
  refine ⟨laws_of _ ?_, ?_⟩ <;> revert level
  · decide +kernel
  · unfold State.EndReads State.Listening
    decide +kernel

/-! ## Witnesses: inputs, the door and the service state -/

/-- Input 15 of a state in this condition. -/
def input15 (x : Input) (s : State) : State := s.setInput 15 x

/-- A bound input whose debounce ends at an active level. -/
def edge (u : Use) : Input := { Input.reset false with trigger := .high, use := u, pin := true, debounceRunning := true }

theorem witness_InputsAreConfiguredAndBound : let u := Use.stopMarker 15
    (Trigger.rising ≠ .never ∧ Trigger.rising ≠ .change ∧ (∀ j : Fin 16, j ≠ 15 → ready.inputs[j].use ≠ u) ∧
      Takes ready 0x58 ([byte1 15, byte1 Trigger.rising.code, 255, byte1 u.code] ++ u.object)) ∧
    (∀ n ∈ [4999, 5000], let s := input15 { edge u with debounceUs := n } ready
      s.inputs[(15 : Fin 16)].debounceRunning = true ∧ s.inputs[(15 : Fin 16)].debounceUs = n ∧
        (n < (5#8).toNat * 1000 ∨ (5#8).toNat * 1000 ≤ n) ∧ (∀ j : Fin 16, j ≠ 15 → s.inputs[j].use ≠ u) ∧
        Takes s 0x58 ([byte1 15, byte1 Trigger.rising.code, 5, byte1 u.code] ++ u.object)) ∧
    (ready.inputs[(15 : Fin 16)].debounceRunning = false ∧ Takes ready 0x58 [byte1 15, byte1 Trigger.high.code, 255, 0, 255]) ∧
    (let s := sensing ready u false
     s.inputs[(0 : Fin 16)].debounceRunning = false ∧ u ≠ .general ∧ Trigger.low ≠ .never ∧ Trigger.low ≠ .change ∧
       s.inputs[(15 : Fin 16)].use = u ∧ Takes s 0x58 ([byte1 0, byte1 Trigger.low.code, 0, byte1 u.code] ++ u.object) ∧
       s.inputs[(15 : Fin 16)].use ≠ .general ∧
       Takes s 0x59 ([byte1 15] ++ outFlag true ++ [0] ++ outFlag true ++ [0x07, byte1 1] ++ [4])) ∧
    (ready.inputs[(15 : Fin 16)].use = .general ∧ storable 0x07 [4] = true ∧
      Takes ready 0x59 ([byte1 15] ++ outFlag true ++ [255] ++ outFlag true ++ [0x07, byte1 1] ++ [4]) ∧
      (tooLong.take 56).length ≤ 56 ∧
      Takes ready 0x59 ([byte1 15] ++ outFlag false ++ [0] ++ outFlag false ++ [0x42, byte1 56] ++ tooLong.take 56)) ∧
    (let s := input15 (edge .general) ready
     s.inputs[(15 : Fin 16)].pin ≠ false ∧ s.inputs[(15 : Fin 16)].level = false) ∧
    ready.inputs[(15 : Fin 16)].pin ≠ true ∧ ready.inputs[(15 : Fin 16)].level ≠ true ∧
    ready.inputs[(15 : Fin 16)].debounceMs ≠ 0 := by decide +kernel

/-- Train 7 in APPROACH on block 0 as its marker is reached. -/
def atMarker (stopping : Bool) (route : List (Fin 16)) : State :=
  input15 (edge (.stopMarker 0)) (train7 (parked true) fun x => { x with state := .approach, stopPending := stopping, route := route })

/-- An input whose rearm timer runs out at this level. -/
def rearming (level : Bool) : Input :=
  { Input.reset level with trigger := .high, notice := true, rearmS := 255, rearmRunning := true, rearmUs := 1 }

theorem witness_FiringsAreDeliveredByTheirUse :
    (∀ s ∈ [atMarker true [], atMarker false [], atMarker false [1]], s.TrackSound) ∧
    ((let s := input15 { edge .general with trigger := .falling } ready
     s.inputs[(15 : Fin 16)].debounceRunning = true ∧ s.inputs[(15 : Fin 16)].trigger.meets s.inputs[(15 : Fin 16)].pin = false) ∧
    (∀ r ∈ [0, 255], let s := input15 { edge .general with action := some (sayAction 4), rearmS := r } ready
     s.inputs[(15 : Fin 16)].debounceRunning = true ∧ s.inputs[(15 : Fin 16)].trigger.meets s.inputs[(15 : Fin 16)].pin = true ∧
       s.inputs[(15 : Fin 16)].rearmRunning = false ∧ s.inputs[(15 : Fin 16)].use = .general ∧
       s.inputs[(15 : Fin 16)].action = some (sayAction 4) ∧ s.inputs[(15 : Fin 16)].notice = false ∧
       s.dispatcher.actions.length < 16) ∧
    (∀ n ∈ [15, 16], ∀ b : Bool,
      let s := { (input15 { edge .general with action := some (sayAction 4), notice := b } ready) with
        dispatcher := ⟨List.replicate n ⟨.host, sayAction 1⟩, none⟩ }
      s.inputs[(15 : Fin 16)] = { edge .general with action := some (sayAction 4), notice := b } ∧
        (edge .general).trigger.meets true = true ∧ s.service.state = .normal ∧ s.dispatcher.actions.length = n ∧
        (inService s).service.state ≠ .normal ∧ (inService s).inputs = s.inputs) ∧
    (∀ w ∈ [(true, []), (false, []), (false, [(1 : Fin 16)])], let s := atMarker w.1 w.2
      s.inputs[(15 : Fin 16)] = edge (.stopMarker 0) ∧ (edge (.stopMarker 0)).trigger.meets true = true ∧
        s.Listening ∧ s.trains[(7 : Fin 8)].head = some 0 ∧ s.trains[(7 : Fin 8)].state = .approach ∧
        s.trains[(7 : Fin 8)].stopPending = w.1 ∧ s.trains[(7 : Fin 8)].route = w.2) ∧
    (let s := input15 (edge (.index 0)) (withDrive (.rotary homing))
     s.inputs[(15 : Fin 16)] = edge (.index 0) ∧ s.drives[(0 : Fin 4)].kind = .rotary homing ∧ homing.state = .homing ∧
       homing.setpoint = homing.target ∧ s.service.state = .normal ∧ s.Listening) ∧
    (let s := input15 (edge (endUse 0 .opened)) (withDrive (.traverse sweep))
     s.inputs[(15 : Fin 16)] = edge (endUse 0 .opened) ∧ s.drives[(0 : Fin 4)].kind = .traverse sweep ∧
       sweep.state = End.opened.movingState ∧ s.Listening) ∧
    (let s := input15 (rearming false) ready
     s.inputs[(15 : Fin 16)].rearmRunning = true ∧ s.inputs[(15 : Fin 16)].level = false ∧ s.inputs[(15 : Fin 16)].trigger ≠ .low) ∧
    (∀ level : Bool, let s := input15 { rearming level with trigger := if level then .high else .low } ready
     s.inputs[(15 : Fin 16)].rearmRunning = true ∧ s.inputs[(15 : Fin 16)].trigger = (if level then .high else .low) ∧
       s.inputs[(15 : Fin 16)].level = level ∧
       s.inputs[(15 : Fin 16)].use = .general ∧ s.inputs[(15 : Fin 16)].action = none ∧ s.inputs[(15 : Fin 16)].notice = true ∧
       s.inputs[(15 : Fin 16)].rearmS ≠ 0) ∧
    ready.inputs[(15 : Fin 16)].debounceRunning = false ∧ ready.inputs[(15 : Fin 16)].rearmRunning = false) := by
  refine ⟨?_, ?_⟩
  · unfold State.TrackSound State.TrainSound
    decide +kernel
  · unfold State.Listening
    decide +kernel

/-- Crossing 1 in this state over block 1, which train 7 waits for, its barrier about to reach an end. -/
def arriving (e : End) (st : CrossingState) (s : State) : State :=
  input15 (edge (endUse 0 e)) ((s.setCrossing 1 ⟨some 1, some 0, 3000, some st, false, 0⟩).setDrive 0
    { Drive.reset with kind := .traverse { sweep with state := e.movingState }, bound := some 1 })

theorem witness_FiringsAreDeliveredByTheirUse_ends :
    (∀ s ∈ [atCrossing, routed true, parked true],
      ∀ w ∈ [(End.closed, CrossingState.closing), (.opened, .opening), (.closed, .opening), (.opened, .closing)],
        let a := arriving w.1 w.2 s
        a.inputs[(15 : Fin 16)] = edge (endUse 0 w.1) ∧ (edge (endUse 0 w.1)).trigger.meets true = true ∧
          a.drives[(0 : Fin 4)].kind = .traverse { sweep with state := w.1.movingState } ∧ a.drives[(0 : Fin 4)].bound = some 1 ∧
          a.crossings[(1 : Fin 2)].state = some w.2 ∧ a.crossings[(1 : Fin 2)].block = some 1 ∧ a.CrossingsSound ∧ a.Listening) ∧
    (let a := arriving .closed .closing atCrossing
     a.blocks[(1 : Fin 16)].reservation = .setting ∧ a.blocks[(1 : Fin 16)].holder = some 7 ∧
       a.trains[(7 : Fin 8)].next = some 1 ∧ a.trains[(7 : Fin 8)].state = .waiting ∧
       ∀ p ∈ a.blocks[(1 : Fin 16)].grant, ∀ n ∈ p.needs, a.turnouts[n.turnout].position = some n.position ∧
         a.turnouts[n.turnout].queued = none ∧ a.turnouts[n.turnout].firing = none) ∧
    (∃ p ∈ (arriving .closed .closing (routed true)).blocks[(1 : Fin 16)].grant, ∃ n ∈ p.needs,
      (arriving .closed .closing (routed true)).turnouts[n.turnout].position ≠ some n.position) ∧
    (arriving .closed .closing (parked true)).blocks[(1 : Fin 16)].reservation ≠ .setting := by
  unfold State.CrossingsSound State.Listening
  refine ⟨?_, ?_, ?_, ?_⟩ <;> decide +kernel

/-- A state with this door and this service state. -/
def doored (d : Door) (v : Service) (s : State) : State := { s with door := d, service := v }

theorem witness_ServiceFreezesAndResumesTheScene : let busy := { drivesAtLimit with trains := (routed false).trains }
    let frozen := inService drivesAtLimit; let opened := doored ⟨true, true, false, 0⟩ ⟨.service, .door, 60, false, 0⟩ ready
    let waiting := doored ⟨false, false, false, 0⟩ ⟨.resumeWait, .door, 60, true, 1⟩ ready
    (busy.service.state = .normal ∧ Takes busy 0x05 [] ∧ busy.Listening ∧ busy.drives[(0 : Fin 4)].kind = .rotary spin ∧
      busy.drives[(1 : Fin 4)].kind = .traverse sweep ∧ busy.trains[(7 : Fin 8)].state = .running) ∧
    (frozen.service.state = .service ∧ Takes frozen 0x05 [] ∧ frozen.service.state ≠ .normal ∧ frozen.door.level = false ∧
      Takes frozen 0x06 [] ∧ frozen.drives[(1 : Fin 4)].kind = .traverse sweep ∧ sweep.state = End.opened.movingState ∧
      frozen.Listening) ∧
    (opened.door.level = true ∧ Takes opened 0x06 []) ∧
    (ready.service.state = .normal ∧ ready.door.level = false ∧ Takes ready 0x06 [] ∧ Takes ready 0x5B [61]) ∧
    ready.door.pin ≠ true ∧
    (let s := doored ⟨true, false, true, 1⟩ ready.service ready
     s.door.debounceRunning = true ∧ s.door.pin = true ∧ s.service.state = .normal ∧ s.Listening) ∧
    (∀ n ∈ [0, 60], let s := doored ⟨false, true, true, 1⟩ ⟨.service, .door, n, false, 0⟩ ready
     s.door.debounceRunning = true ∧ s.door.pin = false ∧ s.service.state = .service ∧ s.service.cause = .door) ∧
    (waiting.service.state = .resumeWait ∧ waiting.service.resumeRunning = true ∧ waiting.Listening ∧ Takes waiting 0x05 []) ∧
    (let s := doored ⟨true, false, true, 1⟩ ⟨.service, .door, 60, false, 0⟩ ready
     s.door.debounceRunning = true ∧ s.door.pin = true ∧ s.service.state = .service ∧ s.service.cause = .door) ∧
    (∀ v ∈ [Service.mk .service .request 60 false 0, ⟨.resumeWait, .door, 60, true, 1⟩], let s := doored ⟨true, false, true, 1⟩ v ready
     s.door.debounceRunning = true ∧ s.door.pin = true ∧ ¬(s.service.state = .service ∧ s.service.cause = .door) ∧ s.Listening) ∧
    ready.service.state ≠ .resumeWait ∧ ready.door.debounceRunning = false := by
  unfold State.Listening
  decide +kernel

/-- The scene with a drive in each condition that SCENE_RESET tells apart. -/
def driven (t : TraverseState) (level : Bool) : State :=
  sensing ((scene.setDrive 1 { Drive.reset with kind := .traverse { sweep with state := t } })) (.endOpen 2) level

theorem witness_SceneResetRestartsTheScene : Takes scene 0x03 [] ∧ scene.BarriersSound ∧
    (∀ t ∈ [TraverseState.movingOpen, .movingClosed, .fault, .mid, .atOpen, .atClosed], ∀ level : Bool, let s := driven t level
      s.BarriersSound ∧ Takes s 0x03 [] ∧ s.drives[(1 : Fin 4)].kind = .traverse { sweep with state := t } ∧
        s.drives[(1 : Fin 4)].bound = none ∧ s.crossings[(0 : Fin 2)].block = some 1 ∧ s.crossings[(0 : Fin 2)].barrier = some 2 ∧
        isTraverse s.drives[(2 : Fin 4)].kind = true ∧ s.EndReads 2 .opened level ∧ s.crossings[(1 : Fin 2)].block = none ∧
        s.drives[(3 : Fin 4)].kind = .unconfigured ∧ s.Listening) ∧
    (gated.BarriersSound ∧ Takes gated 0x03 [] ∧ gated.crossings[(1 : Fin 2)].block ≠ none ∧
      gated.crossings[(0 : Fin 2)].barrier = none ∧ gated.crossings[(1 : Fin 2)].barrier = none) := by
  refine ⟨by decide +kernel, witness_StepsKeepCrossingsSound.1.2, fun t ht level => ⟨barriers_sound_of _ ?_, ?_⟩,
    barriers_sound_of _ ?_, by decide +kernel⟩
  · revert t level
    decide +kernel
  · revert t level
    unfold State.EndReads State.Listening
    decide +kernel
  · decide +kernel

end Sys2Proof.Tests
end

section
/-! SUPPORT. Proofs about the scene clock (chapter 1): the daylight curve, the stages of the clock step and the clock requests. -/

open Sys2Proof
namespace Sys2Proof.Machine

/-! ## The daylight curve (R10) -/

/-- A share e of s of a rise lies between nothing and the whole rise. -/
theorem share_of_rise {d : Int} {e s : Nat} (hd : 0 ≤ d) (h : e ≤ s) : 0 ≤ (d * e).tdiv s ∧ (d * e).tdiv s ≤ d := by
  have hmul : 0 ≤ d * e := Int.mul_nonneg hd (by omega)
  rw [Int.tdiv_eq_ediv_of_nonneg hmul]
  refine ⟨Int.ediv_nonneg hmul (by omega), ?_⟩
  rcases Nat.eq_zero_or_pos s with rfl | hs
  · rw [Int.natCast_zero, Int.ediv_zero]
    exact hd
  · exact Int.ediv_le_of_le_mul (by omega) (Int.mul_le_mul_of_nonneg_left (by omega) hd)

/-- The value on a straight line lies between its ends, the division truncating toward zero. -/
theorem line_between_ends (x y : Int) (e s : Nat) (h : e ≤ s) :
    min x y ≤ x + ((y - x) * e).tdiv s ∧ x + ((y - x) * e).tdiv s ≤ max x y := by
  rcases Int.le_total x y with hxy | hxy
  · have := share_of_rise (d := y - x) (by omega) h
    omega
  · have := share_of_rise (d := x - y) (by omega) h
    have hneg : ((y - x) * e).tdiv s = -((x - y) * e).tdiv s := by
      rw [← Int.neg_tdiv, ← Int.neg_mul, Int.neg_sub]
    omega

/-- With the elapsed time e within the span s, the interpolated level is the straight line from a to b, and never below 0. -/
theorem interpolate_eq_line {a b : CurvePoint} {t e s : Nat} (he : (t + 86400 - a.minute * 60) % 86400 = e)
    (hs : (b.minute * 60 + 86400 - a.minute * 60) % 86400 = s) (h : e ≤ s) :
    (interpolate a b t : Int) = a.level + (((b.level : Int) - a.level) * e).tdiv s := by
  have := (line_between_ends a.level b.level e s h).1
  simp only [interpolate, he, hs]
  omega

/-- A time is before the first point, from the last point on, or between two neighbours. -/
theorem curve_cases (x : CurvePoint) (rest : List CurvePoint) (t : Nat) :
    t < x.minute * 60 ∨ ((x :: rest).getLast (by simp)).minute * 60 ≤ t ∨
      ∃ l r a b, x :: rest = l ++ a :: b :: r ∧ a.minute * 60 ≤ t ∧ t < b.minute * 60 := by
  induction rest generalizing x with
  | nil => exact (Nat.lt_or_ge t (x.minute * 60)).imp_right .inl
  | cons y ys ih =>
    by_cases hx : t < x.minute * 60
    · exact .inl hx
    · rcases ih y with hy | hlast | ⟨l, r, a, b, hsplit, ha, hb⟩
      · exact .inr (.inr ⟨[], ys, x, y, rfl, by omega, hy⟩)
      · exact .inr (.inl (by simpa using hlast))
      · exact .inr (.inr ⟨x :: l, r, a, b, by simp [hsplit], ha, hb⟩)

theorem daylight_of_points {curve : List CurvePoint} {a b : CurvePoint} {t : Nat} (hl : 2 ≤ curve.length)
    (ha : pointAt curve t = some a) (hb : pointAfter curve t = some b) : daylight curve t = interpolate a b t := by
  match curve with
  | [] | [_] => simp at hl
  | _ :: _ :: _ => simp only [daylight, ha, hb]

/-- Between two neighbouring points of a sorted curve they are the points a and b of R10. -/
theorem daylight_between_neighbours {l r : List CurvePoint} {a b : CurvePoint} {t : Nat}
    (hsorted : (l ++ a :: b :: r).Pairwise (fun p q => p.minute < q.minute)) (ha : a.minute * 60 ≤ t) (hb : t < b.minute * 60) :
    daylight (l ++ a :: b :: r) t = interpolate a b t := by
  simp only [List.pairwise_append, List.pairwise_cons, List.mem_cons, forall_eq_or_imp] at hsorted
  obtain ⟨-, ⟨-, hbr, -⟩, hla⟩ := hsorted
  have hl : ∀ p ∈ l, p.minute * 60 ≤ t := fun p hp => by have := (hla p hp).1; omega
  have hr : ∀ p ∈ r, ¬p.minute * 60 ≤ t := fun p hp => by have := hbr p hp; omega
  have hfilter : (l ++ a :: b :: r).filter (fun p => decide (p.minute * 60 ≤ t)) = l ++ [a] := by
    have hkeep : l.filter (fun p => decide (p.minute * 60 ≤ t)) = l := List.filter_eq_self.2 (by simpa using hl)
    have hdrop : r.filter (fun p => decide (p.minute * 60 ≤ t)) = [] := List.filter_eq_nil_iff.2 (by simpa using hr)
    simp [hkeep, hdrop, ha, hb]
  have hfind : l.find? (fun p => decide (t < p.minute * 60)) = none := by
    simpa using hl
  refine daylight_of_points (by simp; omega) ?_ ?_
  · simp [pointAt, hfilter]
  · simp [pointAfter, hfind, ha, hb]

/-- Before the first point and from the last point on, the last point and the first are the points a and b of R10. -/
theorem daylight_across_midnight {m : List CurvePoint} {a b : CurvePoint} {t : Nat}
    (hsorted : (b :: (m ++ [a])).Pairwise (fun p q => p.minute < q.minute)) (h : t < b.minute * 60 ∨ a.minute * 60 ≤ t) :
    daylight (b :: (m ++ [a])) t = interpolate a b t := by
  have hbounds : ∀ p ∈ b :: (m ++ [a]), b.minute ≤ p.minute ∧ p.minute ≤ a.minute := by
    simp only [List.pairwise_append, List.pairwise_cons, List.mem_append, List.mem_singleton] at hsorted
    grind
  have hlast : (b :: (m ++ [a])).getLast? = some a := List.getLast?_concat (l := b :: m)
  refine daylight_of_points (by simp) ?_ ?_
  · rcases h with hb | ha
    · have hnone : (b :: (m ++ [a])).filter (fun p => decide (p.minute * 60 ≤ t)) = [] :=
        List.filter_eq_nil_iff.2 fun p hp => by have := hbounds p hp; simp only [decide_eq_true_eq]; omega
      rw [pointAt, hnone, hlast]; rfl
    · have hall : (b :: (m ++ [a])).filter (fun p => decide (p.minute * 60 ≤ t)) = b :: (m ++ [a]) :=
        List.filter_eq_self.2 fun p hp => by have := hbounds p hp; simp only [decide_eq_true_eq]; omega
      rw [pointAt, hall, hlast]; rfl
  · rcases h with hb | ha
    · simp [pointAfter, hb]
    · have hnone : (b :: (m ++ [a])).find? (fun p => decide (t < p.minute * 60)) = none :=
        List.find?_eq_none.2 fun p hp => by have := hbounds p hp; simp only [decide_eq_true_eq]; omega
      rw [pointAfter, hnone]; rfl

/-- The straight line that R10 gives between two neighbouring points. -/
theorem daylight_line_between {l r : List CurvePoint} {a b : CurvePoint} {t : Nat}
    (hsorted : (l ++ a :: b :: r).Pairwise (fun p q => p.minute < q.minute)) (hday : b.minute ≤ 1439)
    (ha : a.minute * 60 ≤ t) (hb : t < b.minute * 60) :
    (daylight (l ++ a :: b :: r) t : Int) =
      a.level + (((b.level : Int) - a.level) * (t - a.minute * 60 : Nat)).tdiv (b.minute * 60 - a.minute * 60 : Nat) := by
  rw [daylight_between_neighbours hsorted ha hb]
  exact interpolate_eq_line (by omega) (by omega) (by omega)

/-- The straight line that R10 gives from the last point to the first one across midnight. -/
theorem daylight_line_across_midnight {m : List CurvePoint} {a b : CurvePoint} {t : Nat}
    (hsorted : (b :: (m ++ [a])).Pairwise (fun p q => p.minute < q.minute)) (hday : a.minute ≤ 1439) (ht : t < 86400)
    (h : t < b.minute * 60 ∨ a.minute * 60 ≤ t) :
    (daylight (b :: (m ++ [a])) t : Int) =
      a.level + (((b.level : Int) - a.level) * ((t + 86400 - a.minute * 60) % 86400 : Nat)).tdiv
        ((b.minute * 60 + 86400 - a.minute * 60) % 86400 : Nat) := by
  have hab : b.minute < a.minute := (List.pairwise_cons.1 hsorted).1 a (by simp)
  rw [daylight_across_midnight hsorted h]
  exact interpolate_eq_line rfl rfl (by omega)

theorem daylight_between_smallest_and_largest_level {curve : List CurvePoint} {t lo hi : Nat} (hne : curve ≠ [])
    (hsorted : curve.Pairwise (fun p q => p.minute < q.minute))
    (hbounds : ∀ p ∈ curve, p.minute ≤ 1439 ∧ lo ≤ p.level ∧ p.level ≤ hi) (ht : t < 86400) :
    lo ≤ daylight curve t ∧ daylight curve t ≤ hi := by
  match curve with
  | [p] => exact (hbounds p (by simp)).2
  | x :: y :: ys =>
    obtain ⟨m, a, hlast⟩ : ∃ m a, y :: ys = m ++ [a] := ⟨_, _, (List.dropLast_concat_getLast (List.cons_ne_nil y ys)).symm⟩
    have hcases := curve_cases x (y :: ys) t
    have hend : (x :: (m ++ [a])).getLast (List.cons_ne_nil _ _) = a := List.getLast_concat (l := x :: m)
    simp only [hlast] at hne hsorted hbounds hcases ⊢
    have across : t < x.minute * 60 ∨ a.minute * 60 ≤ t →
        lo ≤ daylight (x :: (m ++ [a])) t ∧ daylight (x :: (m ++ [a])) t ≤ hi := fun h => by
      have hx := hbounds x (by simp)
      have ha := hbounds a (by simp)
      have hab : x.minute < a.minute := (List.pairwise_cons.1 hsorted).1 a (by simp)
      have hline := daylight_line_across_midnight hsorted ha.1 ht h
      have := line_between_ends a.level x.level ((t + 86400 - a.minute * 60) % 86400)
        ((x.minute * 60 + 86400 - a.minute * 60) % 86400) (by omega)
      omega
    rcases hcases with hx | ha | ⟨l, r, c, d, hsplit, hc, hd⟩
    · exact across (.inl hx)
    · exact across (.inr (hend ▸ ha))
    · rw [hsplit] at hsorted hbounds ⊢
      have hbc := hbounds c (by simp)
      have hbd := hbounds d (by simp)
      have hline := daylight_line_between hsorted hbd.1 hc hd
      have := line_between_ends c.level d.level (t - c.minute * 60) (d.minute * 60 - c.minute * 60) (by omega)
      omega

/-! ## What the stages of the clock step do to the clock (R2) -/

theorem exec_clockStep (s : State) : exec .clockStep s = .next s.clockStep := by rfl

theorem State.setPhase_eq_turned (s : State) (p : Phase) : s.setPhase p = s.turned p := by
  unfold State.setPhase State.turned
  by_cases h : s.clock.phase = p
  · rw [if_pos h, if_pos h.symm]
  · rw [if_neg h, if_neg (Ne.symm h)]
    cases p <;> rfl

@[simp] theorem State.setPhase_clock (s : State) (p : Phase) : (s.setPhase p).clock = { s.clock with phase := p } := by
  unfold State.setPhase
  split
  · next h => rw [← h]
  · rfl

@[simp] theorem State.offerAction_clock (s : State) (e : ActionEntry) : (s.offerAction e).1.clock = s.clock := by
  rcases s.offerAction_cases e with ⟨_, h⟩ | ⟨_, h⟩ <;> rw [h]
  rfl

@[simp] theorem State.offerCues_clock (ids : List Nat) (s : State) : (State.offerCues ids s).clock = s.clock := by
  induction ids generalizing s with
  | nil => rfl
  | cons id ids ih =>
    unfold State.offerCues
    split
    · rw [ih, State.offerAction_clock]
    · exact ih s

@[simp] theorem State.drain_clock (s : State) : s.drain.clock = s.clock := by
  unfold State.drain
  split
  · rw [State.offerCues_clock]
  · rfl

/-- The scan touches the due list and the scan position alone (R30). -/
theorem State.scan_frame (s : State) :
    ∃ due scan, s.scan = { s with due := due, clock := { s.clock with scan := scan } } := by
  by_cases h : 1 ≤ ahead s.clock.scan s.clock.time ∧ ahead s.clock.scan s.clock.time ≤ 432000
  · exact ⟨_, _, by rw [State.scan, if_pos h]⟩
  · exact ⟨s.due, s.clock.scan, by rw [State.scan, if_neg h]⟩

theorem State.scan_clock (s : State) : ∃ scan, s.scan.clock = { s.clock with scan := scan } := by
  obtain ⟨_, scan, h⟩ := s.scan_frame
  exact ⟨scan, by rw [h]⟩

theorem State.leaderStage_clock (s : State) (crossed : Bool) :
    ∃ pin pulseUs, (s.leaderStage crossed).clock = { s.clock with pin := pin, pulseUs := pulseUs } := by
  unfold State.leaderStage Clock.pulse
  split
  · split
    · exact ⟨_, _, rfl⟩
    · exact ⟨_, _, rfl⟩
  · exact ⟨_, _, rfl⟩

/-- The follower's count sets the advance since pulse and the sync state alone. -/
theorem State.countAdvance_clock (s : State) :
    ∃ advance sync, s.countAdvance.clock = { s.clock with advance := advance, sync := sync } := by
  unfold State.countAdvance State.syncLossTest
  split
  · split
    · exact ⟨_, _, rfl⟩
    · exact ⟨_, _, rfl⟩
  · exact ⟨_, _, rfl⟩

theorem State.advanceStage_clock (s : State) :
    ∃ time days advance sync, s.advanceStage.clock =
      { s.clock with time := time, days := days, advance := advance, sync := sync } := by
  unfold State.advanceStage
  split
  · dsimp only
    split
    · obtain ⟨advance, sync, h⟩ := State.countAdvance_clock (State.dayWrap _)
      exact ⟨_, _, advance, sync, h⟩
    · obtain ⟨advance, sync, h⟩ := State.countAdvance_clock _
      exact ⟨_, _, advance, sync, h⟩
  · exact ⟨_, _, _, _, rfl⟩

theorem State.holdStage_clock (s : State) :
    ∃ state holdRunning holdMs, s.holdStage.clock =
      { s.clock with state := state, holdRunning := holdRunning, holdMs := holdMs } := by
  unfold State.holdStage
  split
  · split
    · exact ⟨_, _, _, rfl⟩
    · exact ⟨_, _, _, rfl⟩
  · exact ⟨_, _, _, rfl⟩

/-- In NORMAL a hold timer with at most 100 ms left expires in stage 1. -/
theorem State.holdStage_expires {s : State} (hn : s.service.state = .normal) (hs : s.clock.state = .held)
    (hr : s.clock.holdRunning = true) (hm : s.clock.holdMs ≤ 100) : s.holdStage = s.expireHold := by
  simp [State.holdStage, State.isNormal, hn, hs, hr, hm]

/-- Outside NORMAL the hold timer and the model time stand still (R3). -/
theorem State.holdStage_of_not_normal {s : State} (hn : s.service.state ≠ .normal) : s.holdStage = s := by
  simp [State.holdStage, State.isNormal, hn]

theorem State.advanceStage_of_not_normal {s : State} (hn : s.service.state ≠ .normal) : s.advanceStage = s := by
  simp [State.advanceStage, State.isNormal, hn]

/-- The last stage sets D and the phase alone (R10, R12). -/
theorem State.daylightStage_clock (s : State) :
    ∃ phase, s.daylightStage.clock =
      { s.clock with level := daylight s.clock.curve (s.clock.time / 10), phase := phase } :=
  ⟨_, State.setPhase_clock _ _⟩

/-- The stages after the advance set the scan position, the SYNC pin, D and the phase alone, D from the model time that the advance
leaves. -/
theorem State.clockStep_clock (s : State) :
    ∃ scan pin pulseUs phase, s.clockStep.clock =
      { s.holdStage.advanceStage.clock with
        scan := scan, pin := pin, pulseUs := pulseUs, phase := phase
        level := daylight s.holdStage.advanceStage.clock.curve (s.holdStage.advanceStage.clock.time / 10) } := by
  obtain ⟨scan, hscan⟩ := s.holdStage.advanceStage.scan_clock
  obtain ⟨pin, pulseUs, hpin⟩ := s.holdStage.advanceStage.scan.drain.leaderStage_clock s.holdStage.crossesMinute
  obtain ⟨phase, hlevel⟩ :=
    (s.holdStage.advanceStage.scan.drain.leaderStage s.holdStage.crossesMinute).daylightStage_clock
  refine ⟨scan, pin, pulseUs, phase, ?_⟩
  rw [State.clockStep, hlevel, hpin, State.drain_clock, hscan]

theorem State.clockStep_level (s : State) :
    s.clockStep.clock.level = daylight s.clock.curve (s.clockStep.clock.time / 10) := by
  obtain ⟨_, _, _, hhold⟩ := s.holdStage_clock
  obtain ⟨_, _, _, _, hadvance⟩ := s.holdStage.advanceStage_clock
  obtain ⟨_, _, _, _, hstep⟩ := s.clockStep_clock
  simp [hstep, hadvance, hhold]

/-- Settles O27: the interpolation stays between its two levels, and the curve is sorted, so that the points a and b of R10 are the
neighbours of t or the ends of the list. -/
theorem daylightFollowsTheCurve : Obligations.DaylightFollowsTheCurve := by
  unfold Obligations.DaylightFollowsTheCurve
  refine ⟨fun _ => rfl, fun _ _ => rfl, ?between, ?midnight, ?bounds, fun s => ⟨_, exec_clockStep s, s.clockStep_level⟩⟩
  case between =>
    intro l r a b t hsorted hday ha hb
    have helapsed : (t - a.minute * 60 : Nat) = (t : Int) - a.minute * 60 := by omega
    have hspan : (b.minute * 60 - a.minute * 60 : Nat) = (b.minute : Int) * 60 - a.minute * 60 := by omega
    rw [daylight_line_between hsorted (hday b (by simp)) ha hb, helapsed, hspan]
  case midnight =>
    intro m a b t hsorted hday ht h
    have ha := hday a (by simp)
    have hb := hday b (by simp)
    have helapsed : ((t + 86400 - a.minute * 60) % 86400 : Nat) = ((t : Int) - a.minute * 60) % 86400 := by omega
    have hspan : ((b.minute * 60 + 86400 - a.minute * 60) % 86400 : Nat) = ((b.minute : Int) * 60 - a.minute * 60) % 86400 := by
      omega
    rw [daylight_line_across_midnight hsorted ha ht h, helapsed, hspan]
  case bounds =>
    intro curve t lo hi hne hsorted hbounds ht
    exact daylight_between_smallest_and_largest_level hne hsorted hbounds ht

/-! ## Notices that stay in the queue (R175, R176) -/

/-- The queue holds this notice while a frame is on the line, so that no choice of the transmitter takes it. -/
def Link.Holds (l : Link) (m : Stamped) : Prop := l.transmitter ≠ .idle ∧ m ∈ l.notices

/-- While a frame is on the line, notices join the queue and none leaves it. -/
theorem Link.Holds.offer {l : Link} {m : Stamped} (h : l.Holds m) (time : Nat) (n : Notice) : (l.offer time n).Holds m := by
  obtain ⟨hbusy, hmem⟩ := h
  rcases l.offer_cases time n with ⟨_, h⟩ | ⟨_, h⟩ | ⟨_, _, h⟩ | ⟨_, _, h⟩ | ⟨_, _, h⟩ <;>
    simp [h, Link.Holds, Link.join, Link.transmit_busy, hbusy, hmem]

/-- A listening link takes the notice that is offered. -/
theorem State.Listening.offer_holds {s : State} (h : s.Listening) {n : Notice} (hn : n.enabled 0xFF#8 = true) (time : Nat) :
    (s.link.offer time n).Holds ⟨time, n⟩ := by
  obtain ⟨hmask, hlost, hlength, hbusy⟩ := h
  rw [s.link.offer_joins time n (hmask ▸ hn) hlost (by omega) hbusy]
  exact ⟨hbusy, by simp⟩

section

variable {s : State} {m : Stamped} (h : s.link.Holds m)
include h

theorem State.setPhase_holds (p : Phase) : (s.setPhase p).link.Holds m := by
  unfold State.setPhase
  split
  · exact h
  · exact h.offer _ _

theorem State.countAdvance_holds : s.countAdvance.link.Holds m := by
  unfold State.countAdvance State.syncLossTest
  split
  · split
    · exact h.offer _ _
    · exact h
  · exact h

theorem State.advanceStage_holds : s.advanceStage.link.Holds m := by
  unfold State.advanceStage
  split
  · refine State.countAdvance_holds ?_
    split
    · exact h.offer _ _
    · exact h
  · exact h

theorem State.scan_holds : s.scan.link.Holds m := by
  obtain ⟨_, _, hscan⟩ := s.scan_frame
  rw [hscan]
  exact h

theorem State.offerAction_holds (e : ActionEntry) : (s.offerAction e).1.link.Holds m := by
  rcases s.offerAction_cases e with ⟨_, he⟩ | ⟨_, he⟩ <;> rw [he]
  · exact h
  · exact h.offer _ _

theorem State.offerCues_holds (ids : List Nat) : (State.offerCues ids s).link.Holds m := by
  induction ids generalizing s with
  | nil => exact h
  | cons id ids ih =>
    unfold State.offerCues
    split
    · exact ih (State.offerAction_holds h _)
    · exact ih h

theorem State.drain_holds : s.drain.link.Holds m := by
  unfold State.drain
  split
  · exact State.offerCues_holds (by exact h) _
  · exact h

theorem State.leaderStage_holds (crossed : Bool) : (s.leaderStage crossed).link.Holds m := by
  unfold State.leaderStage
  split
  · exact h
  · exact h

theorem State.daylightStage_holds : s.daylightStage.link.Holds m := State.setPhase_holds (by exact h) _

end

/-- What stage 1 has sent is still in the queue at the end of the clock step. -/
theorem State.clockStep_holds {s : State} {m : Stamped} (h : s.holdStage.link.Holds m) : s.clockStep.link.Holds m :=
  State.daylightStage_holds (State.leaderStage_holds (State.drain_holds (State.scan_holds (State.advanceStage_holds h))) _)

/-! ## The hold timer in the clock step (R3) -/

theorem State.clockStep_frozen {s : State} (hn : s.service.state ≠ .normal) :
    s.clockStep.clock.time = s.clock.time ∧ s.clockStep.clock.state = s.clock.state ∧
      s.clockStep.clock.holdMs = s.clock.holdMs ∧ s.clockStep.clock.holdRunning = s.clock.holdRunning := by
  obtain ⟨_, _, _, _, hstep⟩ := s.clockStep_clock
  simp [hstep, State.holdStage_of_not_normal hn, State.advanceStage_of_not_normal hn]

@[simp] theorem State.expireHold_clock (s : State) :
    s.expireHold.clock = { s.clock with state := .running, holdRunning := false, holdMs := 0 } := rfl

section

variable {s : State} (hn : s.service.state = .normal) (hs : s.clock.state = .held) (hr : s.clock.holdRunning = true)
  (hm : s.clock.holdMs ≤ 100)
include hn hs hr hm

theorem State.clockStep_ends_hold :
    s.clockStep.clock.state = .running ∧ s.clockStep.clock.holdRunning = false ∧ s.clockStep.clock.holdMs = 0 := by
  obtain ⟨_, _, _, _, hadvance⟩ := s.expireHold.advanceStage_clock
  obtain ⟨_, _, _, _, hstep⟩ := s.clockStep_clock
  simp [hstep, State.holdStage_expires hn hs hr hm, hadvance]

theorem State.clockStep_tells_holdEnd (hl : s.Listening) :
    ⟨s.clock.time / 10, .clock .holdEnd⟩ ∈ s.clockStep.link.notices := by
  have hsent : s.holdStage.link.Holds ⟨s.clock.time / 10, .clock .holdEnd⟩ := by
    rw [State.holdStage_expires hn hs hr hm]
    exact hl.offer_holds (by decide) _
  exact (State.clockStep_holds hsent).2

end

/-! ## The clock requests performed (R4 to R7) -/

/-- A value differs from its clamp exactly when it is out of range. -/
theorem clamp_bne {lo hi : Nat} (h : lo ≤ hi) (n : Nat) : (clamp lo hi n != n) = decide (n < lo ∨ hi < n) := by
  rw [Bool.eq_iff_iff]
  simp only [clamp, bne_iff_ne, decide_eq_true_eq]
  omega

/-- A taken request that is performed ends in the performed state with the reply OK, or ADJUSTED after a clamp. -/
theorem hostRequest_performed {kind tag : Byte} {payload : List Byte} {perform : State → Performed} {s t : State} {clamped : Bool}
    (hl : payload.length ≤ 62) (hc : s.canTake ⟨kind, tag, payload⟩ = true) (hp : perform s.taken = performed clamped t) :
    hostRequest kind tag payload perform s = .next (t.reply kind tag clamped) :=
  hostRequest_taken hl hc hp

/-- A taken request that is refused changes nothing but the reply. -/
theorem hostRequest_refused {kind tag : Byte} {payload : List Byte} {perform : State → Performed} {s : State} {r : Result}
    (hl : payload.length ≤ 62) (hc : s.canTake ⟨kind, tag, payload⟩ = true) (hp : perform s.taken = refuse r s.taken) :
    hostRequest kind tag payload perform s = .next (s.taken.answer kind tag r []) :=
  hostRequest_taken hl hc hp

theorem exec_clockSet (tag : Byte) (payload : List Byte) (s : State) :
    exec (.clockSet tag payload) s = hostRequest 0x10#8 tag payload (performClockSet payload) s := by rfl

theorem exec_clockRun (tag : Byte) (payload : List Byte) (s : State) :
    exec (.clockRun tag payload) s = hostRequest 0x11#8 tag payload (performClockRun payload) s := by rfl

theorem exec_clockHold (tag : Byte) (payload : List Byte) (s : State) :
    exec (.clockHold tag payload) s = hostRequest 0x12#8 tag payload (performClockHold payload) s := by rfl

theorem exec_clockStop (tag : Byte) (payload : List Byte) (s : State) :
    exec (.clockStop tag payload) s = hostRequest 0x13#8 tag payload (performClockStop payload) s := by rfl

theorem State.daylightPlain_eq_turned (s : State) :
    s.daylightPlain =
      ({ s with clock := { s.clock with level := daylight s.clock.curve (s.clock.time / 10) } }.turned
        (if daylight s.clock.curve (s.clock.time / 10) < s.clock.threshold then .night else .day)) :=
  State.setPhase_eq_turned _ _

theorem performClockHold_of_stopped {d1 d0 : Byte} {s : State} (h : s.clock.state = .stopped) :
    performClockHold [d1, d0] s = refuse .stateConflict s := by
  simp only [performClockHold, if_pos h]

theorem performClockHold_of_not_stopped {d1 d0 : Byte} {s : State} (h : s.clock.state ≠ .stopped) :
    performClockHold [d1, d0] s =
      performed (decide (3600 < be2 d1 d0))
        { s with
          clock :=
            { s.clock with
              state := .held, holdRunning := decide (0 < be2 d1 d0), holdMs := min 3600 (be2 d1 d0) * 1000 } } := by
  have hclamp : clamp 0 3600 (be2 d1 d0) = min 3600 (be2 d1 d0) := by simp [clamp]
  have hadjusted : (min 3600 (be2 d1 d0) != be2 d1 d0) = decide (3600 < be2 d1 d0) := by
    rw [← hclamp]
    simp [clamp_bne]
  have hrunning : (min 3600 (be2 d1 d0) != 0) = decide (0 < be2 d1 d0) := by
    rw [Bool.eq_iff_iff]
    simp only [bne_iff_ne, decide_eq_true_eq]
    omega
  simp only [performClockHold, if_neg h, hclamp, hadjusted, hrunning]

theorem performClockSet_of_late {t2 t1 t0 r1 r0 : Byte} {s : State} (h : 86399 < be3 t2 t1 t0) :
    performClockSet [t2, t1, t0, r1, r0] s = refuse .badArgument s := by
  simp only [performClockSet, if_pos h]

theorem performClockSet_within_day {t2 t1 t0 r1 r0 : Byte} {s : State} (h : be3 t2 t1 t0 ≤ 86399) :
    performClockSet [t2, t1, t0, r1, r0] s =
      performed (decide (be2 r1 r0 = 0 ∨ 1440 < be2 r1 r0))
        ({ s with
          clock :=
            { s.clock with
              time := be3 t2 t1 t0 * 10, scan := be3 t2 t1 t0 * 10, rate := max 1 (min 1440 (be2 r1 r0))
              level := daylight s.clock.curve (be3 t2 t1 t0) } }.turned
          (if daylight s.clock.curve (be3 t2 t1 t0) < s.clock.threshold then .night else .day)) := by
  have hseconds : be3 t2 t1 t0 * 10 / 10 = be3 t2 t1 t0 := by omega
  have hadjusted : (clamp 1 1440 (be2 r1 r0) != be2 r1 r0) = decide (be2 r1 r0 = 0 ∨ 1440 < be2 r1 r0) := by
    simp [clamp_bne]
  simp only [performClockSet, if_neg (Nat.not_lt.2 h), hadjusted, State.daylightPlain_eq_turned, hseconds]
  rfl

/-- Settles O25, clause by clause from the requests performed and the hold timer's part in the clock step. -/
theorem clockRequestsSetTheClock : Obligations.ClockRequestsSetTheClock := by
  unfold Obligations.ClockRequestsSetTheClock
  refine ⟨?run, ?runs, ?stop, ?hold, ?holdStopped, ?frozen, ?holdEnds, ?set, ?setLate⟩
  case run =>
    intro tag s hc hs
    have hrun : s.taken.clock.run = { s.clock with state := .running, holdRunning := false, holdMs := 0 } := if_neg hs
    rw [exec_clockRun]
    exact hostRequest_performed (by simp) hc (by rw [performClockRun, hrun])
  case runs =>
    intro tag s hc hs
    have hrun : s.taken.clock.run = s.taken.clock := if_pos hs
    rw [exec_clockRun]
    exact hostRequest_performed (by simp) hc (by rw [performClockRun, hrun])
  case stop =>
    intro tag s hc
    rw [exec_clockStop]
    exact hostRequest_performed (by simp) hc rfl
  case hold =>
    intro tag d1 d0 s hc hs
    rw [exec_clockHold]
    exact hostRequest_performed (by simp) hc (performClockHold_of_not_stopped hs)
  case holdStopped =>
    intro tag d1 d0 s hc hs
    rw [exec_clockHold]
    exact hostRequest_refused (by simp) hc (performClockHold_of_stopped hs)
  case frozen => exact fun s hn => ⟨_, exec_clockStep s, State.clockStep_frozen hn⟩
  case holdEnds =>
    intro s hn hs hr hm
    obtain ⟨hstate, hrunning, hms⟩ := State.clockStep_ends_hold hn hs hr hm
    exact ⟨_, exec_clockStep s, hstate, hrunning, hms, State.clockStep_tells_holdEnd hn hs hr hm⟩
  case set =>
    intro tag t2 t1 t0 r1 r0 s hc ht
    rw [exec_clockSet]
    exact hostRequest_performed (by simp) hc (performClockSet_within_day ht)
  case setLate =>
    intro tag t2 t1 t0 r1 r0 s hc ht
    rw [exec_clockSet]
    exact hostRequest_refused (by simp) hc (performClockSet_of_late ht)

end Sys2Proof.Machine
end

section
/-! SUPPORT. Proofs about the cue list and the stored actions (chapter 2): removing and enabling cues. -/

open Sys2Proof
namespace Sys2Proof.Machine

/-! ## CUE_REMOVE and CUE_ENABLE performed (R25, R26) -/

theorem exec_cueRemove (tag : Byte) (payload : List Byte) (s : State) :
    exec (.cueRemove tag payload) s = hostRequest 0x1B#8 tag payload (performCueRemove payload) s := by rfl

theorem exec_cueEnable (tag : Byte) (payload : List Byte) (s : State) :
    exec (.cueEnable tag payload) s = hostRequest 0x1C#8 tag payload (performCueEnable payload) s := by rfl

/-- The cue list holds a record with this id exactly when the unit's search finds one. -/
theorem any_cue_id (cues : List Cue) (n : Nat) : cues.any (fun c => c.id == n) = true ↔ ∃ c ∈ cues, c.id = n := by
  simp only [List.any_eq_true, beq_iff_eq]

/-- A flag byte reads back as the flag it was written from. -/
@[simp] theorem flag_of_bool (b : Bool) : flag (if b then 1#8 else 0#8) = some b := by
  cases b <;> rfl

theorem performCueRemove_of_held {id : Byte} {s : State} (h : ∃ c ∈ s.cues, c.id = id.toNat) :
    performCueRemove [0, id] s =
      performed false { s with cues := s.cues.filter (fun c => c.id != id.toNat), due := dropDue id.toNat s.due } :=
  if_pos ((any_cue_id _ _).2 h)

theorem performCueRemove_of_missing {id : Byte} {s : State} (h : ∀ c ∈ s.cues, c.id ≠ id.toNat) :
    performCueRemove [0, id] s = refuse .noSuchObject s :=
  if_neg fun hany =>
    have ⟨c, hc, hid⟩ := (any_cue_id _ _).1 hany
    h c hc hid

theorem performCueRemove_all (id : Byte) (s : State) :
    performCueRemove [1, id] s = performed false { s with cues := [], due := [] } := rfl

/-- Only the selectors 0 (one cue) and 1 (ALL) exist. -/
theorem performCueRemove_of_other_selector {selector id : Byte} {s : State} (h : 1 < selector.toNat) :
    performCueRemove [selector, id] s = refuse .badArgument s := by
  unfold performCueRemove
  dsimp only
  split
  · omega
  · omega
  · rfl

theorem performCueEnable_of_held {id : Byte} {on : Bool} {s : State} (h : ∃ c ∈ s.cues, c.id = id.toNat) :
    performCueEnable (id :: outFlag on) s =
      performed false
        { s with
          cues := s.cues.map (fun c => if c.id = id.toNat then { c with enabled := on } else c)
          due := if on then s.due else dropDue id.toNat s.due } := by
  simp only [performCueEnable, outFlag, if_pos ((any_cue_id _ _).2 h), flag_of_bool]

/-- Settles O34, clause by clause: what CUE_REMOVE and CUE_ENABLE perform on the state in which their frame is taken. -/
theorem cuesAreRemovedAndEnabled : Obligations.CuesAreRemovedAndEnabled := by
  unfold Obligations.CuesAreRemovedAndEnabled
  refine ⟨?one, ?missing, ?all, ?otherSelector, ?enable⟩
  case one =>
    intro tag id s hc hheld
    rw [exec_cueRemove]
    exact hostRequest_performed (by simp) hc (performCueRemove_of_held hheld)
  case missing =>
    intro tag id s hc hmissing
    rw [exec_cueRemove]
    exact hostRequest_refused (by simp) hc (performCueRemove_of_missing hmissing)
  case all =>
    intro tag id s hc
    rw [exec_cueRemove]
    exact hostRequest_performed (by simp) hc (performCueRemove_all id _)
  case otherSelector =>
    intro tag selector id s hc hsel
    rw [exec_cueRemove]
    exact hostRequest_refused (by simp) hc (performCueRemove_of_other_selector hsel)
  case enable =>
    intro tag id on s hc hheld
    rw [exec_cueEnable]
    exact hostRequest_performed (by simp [outFlag]) hc (performCueEnable_of_held hheld)

end Sys2Proof.Machine
end

section
/-! SUPPORT. Proofs about the drive unit (chapter 5): tuning a drive, and the control interval drive by drive. -/

open Sys2Proof
namespace Sys2Proof.Machine

/-! ## DRIVE_TUNE performed (R84) -/

/-- An object's own number as a byte names that object. -/
theorem object_byte1 {n : Nat} (h : n ≤ 256) (i : Fin n) : object n (byte1 i) = some i := by
  have hval : (byte1 i).toNat = i.val := by
    rw [byte1, BitVec.toNat_ofNat]
    exact Nat.mod_eq_of_lt (by omega)
  simp [object, hval]

/-- A byte above the last object's number names none. -/
theorem object_eq_none {n : Nat} {b : Byte} (h : n ≤ b.toNat) : object n b = none :=
  dif_neg (Nat.not_lt.2 h)

theorem exec_driveTune (tag : Byte) (payload : List Byte) (s : State) :
    exec (.driveTune tag payload) s = hostRequest 0x31#8 tag payload (performDriveTune payload) s := by rfl

theorem performDriveTune_of_drive (d : Fin 4) (p1 p0 i1 i0 : Byte) (s : State) :
    performDriveTune [byte1 d, p1, p0, i1, i0] s =
      performed (decide (255 < be2 p1 p0 ∨ 255 < be2 i1 i0))
        (s.setDrive d { s.drives[d] with kp := min 255 (be2 p1 p0), ki := min 255 (be2 i1 i0) }) := by
  have hclamp (n : Nat) : clamp 0 255 n = min 255 n := Nat.zero_max _
  have hadjusted (n : Nat) : (min 255 n != n) = decide (255 < n) := by simp [← hclamp, clamp_bne]
  simp only [performDriveTune, object_byte1 (by decide : 4 ≤ 256), hclamp, hadjusted, Bool.decide_or]

theorem performDriveTune_of_missing {d p1 p0 i1 i0 : Byte} {s : State} (h : 3 < d.toNat) :
    performDriveTune [d, p1, p0, i1, i0] s = refuse .noSuchObject s := by
  simp only [performDriveTune, object_eq_none h]

/-! ## What a control interval touches (R88) -/

/-- Among the drives, only the record of drive d differs, and nothing differs beyond what the track operations touch. -/
def State.TouchesDrive (d : Fin 4) (s t : State) : Prop :=
  t.elsewhere = s.elsewhere ∧ ∀ e : Fin 4, e ≠ d → t.drives[e] = s.drives[e]

namespace State.TouchesDrive

theorem refl (d : Fin 4) (s : State) : State.TouchesDrive d s s := ⟨rfl, fun _ _ => rfl⟩

variable {d : Fin 4} {s t : State} (h : State.TouchesDrive d s t)
include h

theorem setDrive (x : Drive) : State.TouchesDrive d s (t.setDrive d x) := by
  obtain ⟨helse, hother⟩ := h
  refine ⟨helse, fun e he => ?_⟩
  rw [State.setDrive_drives, put_get_other _ _ _ _ he.symm, hother e he]

theorem send (n : Notice) : State.TouchesDrive d s (t.send n) := by
  obtain ⟨helse, hother⟩ := h
  exact ⟨by rw [State.send_elsewhere, helse], hother⟩

theorem setCrossing (c : Fin 2) (x : Crossing) : State.TouchesDrive d s (t.setCrossing c x) := h

theorem crossingFault (c : Fin 2) (x : End) : State.TouchesDrive d s (t.crossingFault c x) := by
  unfold State.crossingFault
  dsimp only
  split
  · exact (h.setCrossing _ _).send _
  · exact h

theorem stall (r : Rotary) : State.TouchesDrive d s (t.stall d r) := (h.setDrive _).send _

theorem rideEnds (r : Rotary) : State.TouchesDrive d s (t.rideEnds d r) := by
  unfold State.rideEnds
  split
  · exact (h.setDrive _).send _
  · exact (h.setDrive _).send _

theorem driveTimers (r : Rotary) : State.TouchesDrive d s (t.driveTimers d r) := by
  unfold State.driveTimers
  split
  · split
    · split
      · exact h.rideEnds r
      · exact h.setDrive _
    · exact h
  · split
    · split
      · exact (h.setDrive _).send _
      · exact h.setDrive _
    · exact h
  · exact h

theorem afterLoop (r : Rotary) : State.TouchesDrive d s (t.afterLoop d r) := by
  unfold State.afterLoop
  dsimp only
  split
  · exact h.stall _
  · split
    · exact (h.setDrive _).setDrive _
    · exact (h.setDrive _).driveTimers _

theorem rotaryInterval (r : Rotary) : State.TouchesDrive d s (t.rotaryInterval d r) := by
  unfold State.rotaryInterval
  dsimp only
  split
  · exact (h.setDrive _).afterLoop _
  · exact h.setDrive _

theorem travelFaults (v : Traverse) (x : End) : State.TouchesDrive d s (t.travelFaults d v x) := by
  unfold State.travelFaults
  dsimp only
  split
  · exact ((h.setDrive _).send _).crossingFault _ _
  · exact (h.setDrive _).send _

theorem traverseInterval (v : Traverse) : State.TouchesDrive d s (t.traverseInterval d v) := by
  unfold State.traverseInterval
  split
  · exact h
  · split
    · split
      · exact h.travelFaults _ _
      · exact h.setDrive _
    · exact h

theorem driveInterval : State.TouchesDrive d s (t.driveInterval d) := by
  unfold State.driveInterval
  split
  · exact h
  · exact h.rotaryInterval _
  · exact h.traverseInterval _

end State.TouchesDrive

/-- The intervals of other drives leave a drive as it is, and everything beyond the track operations' reach. -/
theorem foldl_driveInterval_of_not_mem {d : Fin 4} {l : List (Fin 4)} (h : d ∉ l) (s : State) :
    (l.foldl State.driveInterval s).elsewhere = s.elsewhere ∧ (l.foldl State.driveInterval s).drives[d] = s.drives[d] := by
  induction l generalizing s with
  | nil => exact ⟨rfl, rfl⟩
  | cons e l ih =>
    obtain ⟨hne, hl⟩ := List.ne_and_not_mem_of_not_mem_cons h
    obtain ⟨helse, hother⟩ := (State.TouchesDrive.refl e s).driveInterval
    obtain ⟨ihelse, ihdrive⟩ := ih hl (s.driveInterval e)
    exact ⟨ihelse.trans helse, ihdrive.trans (hother d hne)⟩

/-- The control interval works each drive on its own: the drive's interval finds the drive's record as it stood before. -/
theorem State.controlInterval_drive (s : State) (d : Fin 4) :
    ∃ u : State, u.elsewhere = s.elsewhere ∧ u.drives[d] = s.drives[d] ∧
      s.controlInterval.drives[d] = (u.driveInterval d).drives[d] := by
  obtain ⟨before, after, hsplit⟩ := List.append_of_mem (List.mem_finRange d)
  have hnodup := List.nodup_finRange 4
  rw [hsplit] at hnodup
  obtain ⟨-, hrest, hdistinct⟩ := List.nodup_append.1 hnodup
  have hbefore : d ∉ before := fun hd => hdistinct d hd d List.mem_cons_self rfl
  have hafter : d ∉ after := (List.nodup_cons.1 hrest).1
  obtain ⟨helse, hdrive⟩ := foldl_driveInterval_of_not_mem hbefore s
  refine ⟨_, helse, hdrive, ?_⟩
  rw [State.controlInterval, hsplit, List.foldl_append, List.foldl_cons]
  exact (foldl_driveInterval_of_not_mem hafter _).2

/-! ## The interval of a RUNNING drive (R87 to R89) -/

theorem exec_driveControlInterval (s : State) : exec .driveControlInterval s = .next s.controlInterval := by rfl

/-- The stall test adds at most one to the stall count. -/
theorem Rotary.stallCount_le (r : Rotary) (duty : Nat) : r.stallCount duty ≤ r.stall + 1 := by
  unfold Rotary.stallCount
  split
  · exact Nat.le_refl _
  · exact Nat.zero_le _

/-- A ROTARY drive after the speed has been measured and the loop worked with these gains (R87, R89). -/
def Rotary.looped (r : Rotary) (kp ki : Nat) : Rotary :=
  { r with
    speed := r.measured
    setpoint := r.nextSetpoint
    integral := (loopOutput kp ki r.dutyMax ((r.nextSetpoint : Int) - r.measured) r.integral).1 }

/-- The duty that the loop gives with these gains (R89). -/
def Rotary.loopDuty (r : Rotary) (kp ki : Nat) : Nat :=
  (loopOutput kp ki r.dutyMax ((r.nextSetpoint : Int) - r.measured) r.integral).2

theorem Drive.loop_measured (x : Drive) (r : Rotary) :
    x.loop { r with speed := r.measured } =
      { x with duty := r.loopDuty x.kp x.ki, kind := .rotary (r.looped x.kp x.ki) } := rfl

/-- With no duration timer and the stall time not reached, a RUNNING drive keeps what the loop gave it, but for its stall count. -/
theorem State.afterLoop_running {s : State} {d : Fin 4} {r : Rotary} (hstate : r.state = .running)
    (hduration : r.durationRunning = false) (hstall : r.stall + 1 < r.stallMs / 50) :
    s.afterLoop d r =
      s.setDrive d { s.drives[d] with kind := .rotary { r with stall := r.stallCount s.drives[d].duty } } := by
  have hcount : ¬r.stallMs / 50 ≤ r.stallCount s.drives[d].duty := by
    have := r.stallCount_le s.drives[d].duty
    omega
  rw [State.afterLoop, if_neg hcount]
  simp [State.driveTimers, hstate, hduration]

/-- A turning drive in NORMAL: the speed is measured, the loop is worked, and the tests and timers follow. -/
theorem State.rotaryInterval_turning {s : State} {d : Fin 4} {r : Rotary} (hn : s.service.state = .normal)
    (ht : r.state.turning = true) :
    s.rotaryInterval d r =
      (s.setDrive d (s.drives[d].loop { r with speed := r.measured })).afterLoop d
        (r.looped s.drives[d].kp s.drives[d].ki) := by
  have hworked : (s.isNormal && r.state.turning) = true := by simp [State.isNormal, hn, ht]
  rw [State.rotaryInterval]
  exact if_pos hworked

/-- The interval of a RUNNING drive: the loop's duty and record, with a stall count. -/
theorem State.driveInterval_running {s : State} {d : Fin 4} {r : Rotary} (hkind : s.drives[d].kind = .rotary r)
    (hn : s.service.state = .normal) (hstate : r.state = .running) (hduration : r.durationRunning = false)
    (hstall : r.stall + 1 < r.stallMs / 50) :
    ∃ stall, (s.driveInterval d).drives[d] =
      { s.drives[d] with
        duty := r.loopDuty s.drives[d].kp s.drives[d].ki
        kind := .rotary { r.looped s.drives[d].kp s.drives[d].ki with stall := stall } } := by
  have hinterval : s.driveInterval d = s.rotaryInterval d r := by simp only [State.driveInterval, hkind]
  rw [hinterval, State.rotaryInterval_turning hn (by rw [hstate]; rfl), Drive.loop_measured,
    State.afterLoop_running (r := r.looped _ _) hstate hduration hstall, State.setDrive_drives, put_get_self, State.setDrive_drives, put_get_self]
  exact ⟨_, rfl⟩

theorem Rotary.measured_eq (r : Rotary) :
    r.measured =
      if r.history = [] then 0 else min 9999 (600000000 * r.history.length / (r.history.sum * r.unit.us * r.ppr)) := by
  simp only [Rotary.measured, List.length_eq_zero_iff]

/-- The duty is the raw duty of the kept integral, clamped to 0 and the drive's greatest duty (R89, steps 5 and 6). -/
theorem loopOutput_duty (kp ki dutyMax : Nat) (e i : Int) :
    ((loopOutput kp ki dutyMax e i).2 : Int) =
      max 0 (min (dutyMax : Int) (rawDuty kp ki e (loopOutput kp ki dutyMax e i).1)) :=
  Int.toNat_of_nonneg (Int.le_max_left _ _)

/-- Settles O46: DRIVE_TUNE as performed on the taken state, and the speed loop in the interval of the one drive. -/
theorem tunedGainsDriveTheSpeedLoop : Obligations.TunedGainsDriveTheSpeedLoop := by
  unfold Obligations.TunedGainsDriveTheSpeedLoop
  refine ⟨?tune, ?missing, ?interval⟩
  case tune =>
    intro tag d p1 p0 i1 i0 s hc
    rw [exec_driveTune]
    exact hostRequest_performed (by simp) hc (performDriveTune_of_drive d p1 p0 i1 i0 _)
  case missing =>
    intro tag d p1 p0 i1 i0 s hc hd
    rw [exec_driveTune]
    exact hostRequest_refused (by simp) hc (performDriveTune_of_missing hd)
  case interval =>
    intro d r s hkind hn hstate hduration hstall
    obtain ⟨u, helse, hsame, hworked⟩ := s.controlInterval_drive d
    have hservice : u.service.state = .normal := by rw [State.elsewhere_service helse, hn]
    obtain ⟨stall, hrecord⟩ := State.driveInterval_running (hsame ▸ hkind) hservice hstate hduration hstall
    rw [← hworked, hsame] at hrecord
    refine ⟨_, { r.looped s.drives[d].kp s.drives[d].ki with stall := stall }, _, exec_driveControlInterval s, by rw [hrecord],
      r.measured_eq, rfl, rfl, rfl, ?_⟩
    rw [hrecord]
    exact loopOutput_duty _ _ _ _ _

end Sys2Proof.Machine
end

section
/-! SUPPORT. Proofs about blocks and paths (chapter 6): a grant pass over a path that requires one turnout in both positions. -/

open Sys2Proof
namespace Sys2Proof.Machine

/-! ## What a grant says of its path's requirements (R113) -/

/-- Since a turnout is locked at one position, a path by which a block stands granted asks for one position of each turnout. -/
theorem State.Granted.positions_agree {u : State} {t : Fin 8} {b : Fin 16} {p : Path} {rest : List (Fin 8)}
    (h : u.Granted t b p rest) {n m : Need} (hn : n ∈ p.needs) (hm : m ∈ p.needs) (hsame : n.turnout = m.turnout) :
    n.position = m.position := by
  obtain ⟨-, -, -, -, -, -, -, hlocked⟩ := h
  have hnAt := (hlocked n hn).2
  have hmAt := (hlocked m hm).2
  simp only [hsame, hmAt, Option.some.injEq] at hnAt
  exact hnAt.symm

/-- What `Passed` allows a block whose every path requires one turnout in two positions is only that it stays as it was. -/
theorem State.Passed.block_unchanged {w u : State} (h : w.Passed u) {b : Fin 16} {n m : Need}
    (hneeds : ∀ p ∈ w.paths, p.dst = b → n ∈ p.needs ∧ m ∈ p.needs) (hsame : n.turnout = m.turnout)
    (hopposed : n.position ≠ m.position) : u.blocks[b] = w.blocks[b] := by
  rcases h b with ⟨t, rest, p, -, hp, -, hdst, -, hgranted⟩ | ⟨hkept, -⟩
  · obtain ⟨hn, hm⟩ := hneeds p hp hdst
    exact absurd (hgranted.positions_agree hn hm hsame) hopposed
  · exact hkept

/-! ## A path that requires one turnout in both positions -/

/-- A path from block 0 to block 1 over turnout 7, NORMAL and DIVERGE at once. No PATH_ADD is performed for it (R110, check 5) and
`State.LocksSound` excludes it from the table, but none of the laws that O50 assumes does. -/
def opposedPath : Path := ⟨0, 1, .fwd, [⟨7, .normal⟩, ⟨7, .diverge⟩]⟩

/-- The part after a power-on reset, but for that path in the table, and train 0, which holds block 0 and waits there for block 1,
not yet configured. -/
def opposedState : State :=
  { ((State.reset.setBlock 0 { Block.reset false with reservation := .reserved, holder := some 0 }).setBlock 1
      { Block.reset false with waiting := [0] }).setTrain 0
      { Train.reset with state := .waiting, head := some 0, route := [1], waitingFor := some 1 } with
    paths := [opposedPath] }

theorem opposedState_trackSound : opposedState.TrackSound := by
  unfold State.TrackSound State.TrainSound
  decide +kernel

theorem opposedState_storesSound : opposedState.StoresSound := by
  unfold State.StoresSound
  decide +kernel

theorem opposedState_throwsSound : opposedState.ThrowsSound := by
  unfold State.ThrowsSound
  decide +kernel

/-- No drive is bound, and no crossing configured. -/
theorem opposedState_barriersSound : opposedState.BarriersSound := by
  have hunbound : ∀ d : Fin 4, opposedState.drives[d].bound = none := by decide +kernel
  exact ⟨by decide +kernel, fun d hd => absurd (hunbound d) hd, by decide +kernel, by decide +kernel, by decide +kernel⟩

/-- `opposedState` once its first BLOCK_CONFIG has configured block 1 with the settings that it has after a reset. -/
def opposedConfigured : State :=
  opposedState.taken.setBlock 1
    { opposedState.blocks[(1 : Fin 16)] with
      configured := true, onMs := 30, offMs := 500, approachSpeed := 24, approachMs := 0, transitS := 30
      debounceRunning := false, debounceUs := 0 }

/-- The availability test reads both requirements before the first lock (R113, R134), so the pass grants block 1. -/
theorem opposedConfigured_pass_grants :
    opposedConfigured.grantPass.blocks[(1 : Fin 16)].reservation = .setting ∧
      opposedConfigured.blocks[(1 : Fin 16)].reservation = .free := by
  decide +kernel

/-- The pass grants block 1, which `Passed` allows for no path that requires turnout 7 in both positions. -/
theorem opposedConfigured_not_passed : ¬ opposedConfigured.Passed opposedConfigured.grantPass := by
  intro hpassed
  obtain ⟨hafter, hbefore⟩ := opposedConfigured_pass_grants
  have hneeds : ∀ p ∈ opposedConfigured.paths, p.dst = 1 → ⟨7, .normal⟩ ∈ p.needs ∧ ⟨7, .diverge⟩ ∈ p.needs := by
    decide +kernel
  have hkept := hpassed.block_unchanged hneeds rfl (by decide)
  rw [hkept, hbefore] at hafter
  exact absurd hafter (by decide)

/-- Refutes O50: the BLOCK_CONFIG clause assumes no law that keeps the requirements of the paths in the table apart (`Path.Distinct`,
which its PATH_ADD clause asks of the new path alone). In `opposedState` BLOCK_CONFIG of block 1 starts a grant pass, which grants the
block by a path that requires turnout 7 NORMAL and DIVERGE; the second lock leaves the turnout at DIVERGE, and not at both positions,
as `State.Granted` has it. -/
theorem not_blocksAndPathsAreConfigured : ¬ Obligations.BlocksAndPathsAreConfigured := by
  unfold Obligations.BlocksAndPathsAreConfigured
  rintro ⟨hconfig, -⟩
  obtain ⟨u, hu, -, hpassed⟩ :=
    hconfig 0 30 50 24 0 30 1 opposedState (by decide +kernel) (by decide +kernel) (by decide +kernel)
  have hconfigured : u = opposedConfigured := hu
  rw [hconfigured] at hpassed
  exact opposedConfigured_not_passed
    (hpassed opposedState_trackSound opposedState_storesSound opposedState_throwsSound opposedState_barriersSound)

end Sys2Proof.Machine
end
